-- ==== Sys2Proof/Word.lean ====
section
/-! DEFINITION. The block's words: the widths of `00_scope.md` R7 and the transaction word of `30_encoding.md` R80. -/

namespace Sys2Proof

/-- A byte: a packed byte, a compressed byte, a colour channel, a threshold. -/
abbrev Byte := BitVec 8

/-- A host address, `HADDR_BITS` = 16 (R7, R60). -/
abbrev HAddr := BitVec 16

/-- A host data word, `HDATA_BITS` = 32 (R7, R61). -/
abbrev HData := BitVec 32

/-- The word part ADDR[15:2] of a host address, from which a transaction is decoded (R82). -/
abbrev WordAddr := BitVec 14

/-- The transaction word `BT[48:0]` (R80): WE, then ADDR, then WDATA. -/
abbrev BusWord := BitVec 49

/-- One source or target pixel, four 8-bit channels (R10, R67). -/
structure Rgba where
  r : Byte
  g : Byte
  b : Byte
  a : Byte
deriving DecidableEq, Repr, Inhabited

/-- What the source presents at its sample port: the colours it holds apart from one background
colour, each as (column, row, colour). The first entry for a coordinate counts (log 14). -/
structure Image where
  background : Rgba
  pixels : List (Nat × Nat × Rgba)
deriving DecidableEq, Repr

end Sys2Proof
end

