-- ==== Sys2Proof/Syntax.lean ====
section
/-! DEFINITION. The instructions: one constructor for each row of spec/opcode_table.json, the 22 host
transactions of `30_encoding.md` R82 and the 5 internal operations of R89.

A transaction's constructor carries the bits of its word that the block ignores too (log 6): `lo` is ADDR[1:0]
(R61), `wd` is WDATA where no field or not every bit of it is used (R80, R83), `hi` is WDATA[31:4] of a command. -/

namespace Sys2Proof

inductive Instr where
  /-- WR CMD NOP, R100. -/
  | wrCmdNop (lo : BitVec 2) (hi : BitVec 28)
  /-- WR CMD START, R101. -/
  | wrCmdStart (lo : BitVec 2) (hi : BitVec 28)
  /-- WR CMD reserved, R102; `op` is 0x2 to 0xF. -/
  | wrCmdRsv (op : BitVec 4) (lo : BitVec 2) (hi : BitVec 28)
  /-- RD CMD, R104. -/
  | rdCmd (lo : BitVec 2) (wd : HData)
  /-- RD STATUS, R105. -/
  | rdStatus (lo : BitVec 2) (wd : HData)
  /-- WR STATUS, R106. -/
  | wrStatus (lo : BitVec 2) (wd : HData)
  /-- RD TARGET_W, R107. -/
  | rdTargetW (lo : BitVec 2) (wd : HData)
  /-- WR TARGET_W, R108. -/
  | wrTargetW (lo : BitVec 2) (wd : HData)
  /-- RD TARGET_H, R109. -/
  | rdTargetH (lo : BitVec 2) (wd : HData)
  /-- WR TARGET_H, R110. -/
  | wrTargetH (lo : BitVec 2) (wd : HData)
  /-- RD CONFIG, R111. -/
  | rdConfig (lo : BitVec 2) (wd : HData)
  /-- WR CONFIG, R112. -/
  | wrConfig (lo : BitVec 2) (wd : HData)
  /-- RD SRC_DIM, R113. -/
  | rdSrcDim (lo : BitVec 2) (wd : HData)
  /-- WR SRC_DIM, R114. -/
  | wrSrcDim (lo : BitVec 2) (wd : HData)
  /-- RD PACKED_LEN, R115. -/
  | rdPackedLen (lo : BitVec 2) (wd : HData)
  /-- WR PACKED_LEN, R116. -/
  | wrPackedLen (lo : BitVec 2) (wd : HData)
  /-- RD ART_LEN, R117. -/
  | rdArtLen (lo : BitVec 2) (wd : HData)
  /-- WR ART_LEN, R118. -/
  | wrArtLen (lo : BitVec 2) (wd : HData)
  /-- RD ART window, R119; `idx` is ADDR[13:2], the word index. -/
  | rdArt (idx : BitVec 12) (lo : BitVec 2) (wd : HData)
  /-- WR ART window, R120. -/
  | wrArt (idx : BitVec 12) (lo : BitVec 2) (wd : HData)
  /-- RD reserved, R121; `w` is ADDR[15:2], a reserved word address. -/
  | rdRsv (w : WordAddr) (lo : BitVec 2) (wd : HData)
  /-- WR reserved, R122. -/
  | wrRsv (w : WordAddr) (lo : BitVec 2) (wd : HData)
  /-- PRODUCE, R165: the sequencer's step. -/
  | produce
  /-- PK_XFER, R166: the compressor raises PK_READY. -/
  | pkXfer
  /-- CZ_BYTE, R182: the compressor offers CZ_DATA with CZ_LAST. -/
  | czByte (data : Byte) (last : Bool)
  /-- CZ_FAIL, R184: the compressor raises CZ_ERROR. -/
  | czFail
  /-- RESET, R230. -/
  | reset
deriving DecidableEq, Repr

/-- The 22 host transactions, as against the 5 internal operations (R89). -/
def Instr.isTransaction : Instr → Bool
  | .produce | .pkXfer | .czByte _ _ | .czFail | .reset => false
  | .wrCmdNop _ _ | .wrCmdStart _ _ | .wrCmdRsv _ _ _ | .rdCmd _ _ | .rdStatus _ _ | .wrStatus _ _
  | .rdTargetW _ _ | .wrTargetW _ _ | .rdTargetH _ _ | .wrTargetH _ _ | .rdConfig _ _ | .wrConfig _ _
  | .rdSrcDim _ _ | .wrSrcDim _ _ | .rdPackedLen _ _ | .wrPackedLen _ _ | .rdArtLen _ _ | .wrArtLen _ _
  | .rdArt _ _ _ | .wrArt _ _ _ | .rdRsv _ _ _ | .wrRsv _ _ _ => true

/-- The host's reads, the transactions with WE = 0 (R82). -/
def Instr.isRead : Instr → Bool
  | .rdCmd _ _ | .rdStatus _ _ | .rdTargetW _ _ | .rdTargetH _ _ | .rdConfig _ _ | .rdSrcDim _ _
  | .rdPackedLen _ _ | .rdArtLen _ _ | .rdArt _ _ _ | .rdRsv _ _ _ => true
  | .wrCmdNop _ _ | .wrCmdStart _ _ | .wrCmdRsv _ _ _ | .wrStatus _ _ | .wrTargetW _ _ | .wrTargetH _ _
  | .wrConfig _ _ | .wrSrcDim _ _ | .wrPackedLen _ _ | .wrArtLen _ _ | .wrArt _ _ _ | .wrRsv _ _ _
  | .produce | .pkXfer | .czByte _ _ | .czFail | .reset => false

end Sys2Proof
end

