-- ==== Sys2Proof/WellFormed.lean ====
section
/-! DEFINITION. Which terms of `Instr` stand for a row of the decode table (`30_encoding.md` R82). -/

namespace Sys2Proof

/-- A word address of the reserved space 0x0020-0x3FFF, 0x8000-0xFFFF (R22, R49, R82 rows 21 and 22). -/
def reservedWord (w : WordAddr) : Bool :=
  (8 ≤ w.toNat && w.toNat < 0x1000) || 0x2000 ≤ w.toNat

/-- The operands a row of R82 admits: a reserved OP is 0x2-0xF (row 3), a reserved access names a reserved
address (rows 21 and 22). Every other operand takes every value of its width. -/
def Instr.wf : Instr → Bool
  | .wrCmdRsv op _ _ => 2 ≤ op.toNat
  | .rdRsv w _ _ => reservedWord w
  | .wrRsv w _ _ => reservedWord w
  | .wrCmdNop _ _ | .wrCmdStart _ _ | .rdCmd _ _ | .rdStatus _ _ | .wrStatus _ _
  | .rdTargetW _ _ | .wrTargetW _ _ | .rdTargetH _ _ | .wrTargetH _ _ | .rdConfig _ _ | .wrConfig _ _
  | .rdSrcDim _ _ | .wrSrcDim _ _ | .rdPackedLen _ _ | .wrPackedLen _ _ | .rdArtLen _ _ | .wrArtLen _ _
  | .rdArt _ _ _ | .wrArt _ _ _ | .produce | .pkXfer | .czByte _ _ | .czFail | .reset => true

end Sys2Proof
end

