-- ==== Sys2Proof/Decode.lean ====
section
/-! DEFINITION. Decoding a transaction word and encoding a transaction (`30_encoding.md` R80, R82, R83, R86), and
the rows of spec/opcode_table.json with their match, mask and priority. -/

namespace Sys2Proof

/-! ## The decoder: R82 read from the top -/

/-- Rows 1-3: a CMD write, by OP = WDATA[3:0] (R86). -/
def decodeCmd (lo : BitVec 2) (wd : HData) : Instr :=
  let op := wd.extractLsb' 0 4
  let hi := wd.extractLsb' 4 28
  if op = 0 then .wrCmdNop lo hi
  else if op = 1 then .wrCmdStart lo hi
  else .wrCmdRsv op lo hi

/-- The write rows of R82, by the word address. -/
def decodeWrite (w : WordAddr) (lo : BitVec 2) (wd : HData) : Instr :=
  if w = 0 then decodeCmd lo wd
  else if w = 1 then .wrStatus lo wd
  else if w = 2 then .wrTargetW lo wd
  else if w = 3 then .wrTargetH lo wd
  else if w = 4 then .wrConfig lo wd
  else if w = 5 then .wrSrcDim lo wd
  else if w = 6 then .wrPackedLen lo wd
  else if w = 7 then .wrArtLen lo wd
  else if w.extractLsb' 12 2 = 1 then .wrArt (w.extractLsb' 0 12) lo wd
  else .wrRsv w lo wd

/-- The read rows of R82, by the word address. -/
def decodeRead (w : WordAddr) (lo : BitVec 2) (wd : HData) : Instr :=
  if w = 0 then .rdCmd lo wd
  else if w = 1 then .rdStatus lo wd
  else if w = 2 then .rdTargetW lo wd
  else if w = 3 then .rdTargetH lo wd
  else if w = 4 then .rdConfig lo wd
  else if w = 5 then .rdSrcDim lo wd
  else if w = 6 then .rdPackedLen lo wd
  else if w = 7 then .rdArtLen lo wd
  else if w.extractLsb' 12 2 = 1 then .rdArt (w.extractLsb' 0 12) lo wd
  else .rdRsv w lo wd

/-- The transaction a word stands for. R82 gives every 49-bit word exactly one. -/
def decode (bt : BusWord) : Instr :=
  if bt.getLsbD 48 then decodeWrite (bt.extractLsb' 34 14) (bt.extractLsb' 32 2) (bt.extractLsb' 0 32)
  else decodeRead (bt.extractLsb' 34 14) (bt.extractLsb' 32 2) (bt.extractLsb' 0 32)

/-! ## Numbers that are no transaction word -/

/-- Why a number is not decoded. -/
inductive DecodeError where
  /-- A bit above BT[48] is set: the port has no such wire (R51, R80). -/
  | notATransactionWord
deriving DecidableEq, Repr

/-- Decode a number as a transaction word, or reject it by name. -/
def decodeNumber (v : Nat) : Except DecodeError Instr :=
  if v < 2 ^ 49 then .ok (decode (BitVec.ofNat 49 v)) else .error .notATransactionWord

/-- The decoder on a word of spec/opcode_table.json: bit 0 of `w` is BT[0], and bits at `nbits` and above are 0. -/
def decodeTableWord (nbits w : Nat) : Option Instr :=
  match decodeNumber (w % 2 ^ nbits) with
  | .ok i => some i
  | .error _ => none

/-! ## The encoder -/

/-- `BT = {WE, ADDR[15:2], ADDR[1:0], WDATA}` (R80). -/
def busWord (we : Bool) (w : WordAddr) (lo : BitVec 2) (wd : HData) : BusWord :=
  (BitVec.ofBool we ++ w ++ lo ++ wd : BitVec (1 + 14 + 2 + 32))

/-- WDATA of a command: OP in bits [3:0] (R23, R86). -/
def cmdData (op : BitVec 4) (hi : BitVec 28) : HData := (hi ++ op : BitVec (28 + 4))

/-- The window's word address with index `idx`: ADDR[15:14] = 0b01 (R62, R82 rows 19 and 20). -/
def windowAddr (idx : BitVec 12) : WordAddr := (1#2 ++ idx : BitVec (2 + 12))

/-- The transaction word of an instruction. The internal operations have no encoding (R89). -/
def encode : Instr → Option BusWord
  | .wrCmdNop lo hi => some (busWord true 0 lo (cmdData 0 hi))
  | .wrCmdStart lo hi => some (busWord true 0 lo (cmdData 1 hi))
  | .wrCmdRsv op lo hi => some (busWord true 0 lo (cmdData op hi))
  | .rdCmd lo wd => some (busWord false 0 lo wd)
  | .rdStatus lo wd => some (busWord false 1 lo wd)
  | .wrStatus lo wd => some (busWord true 1 lo wd)
  | .rdTargetW lo wd => some (busWord false 2 lo wd)
  | .wrTargetW lo wd => some (busWord true 2 lo wd)
  | .rdTargetH lo wd => some (busWord false 3 lo wd)
  | .wrTargetH lo wd => some (busWord true 3 lo wd)
  | .rdConfig lo wd => some (busWord false 4 lo wd)
  | .wrConfig lo wd => some (busWord true 4 lo wd)
  | .rdSrcDim lo wd => some (busWord false 5 lo wd)
  | .wrSrcDim lo wd => some (busWord true 5 lo wd)
  | .rdPackedLen lo wd => some (busWord false 6 lo wd)
  | .wrPackedLen lo wd => some (busWord true 6 lo wd)
  | .rdArtLen lo wd => some (busWord false 7 lo wd)
  | .wrArtLen lo wd => some (busWord true 7 lo wd)
  | .rdArt idx lo wd => some (busWord false (windowAddr idx) lo wd)
  | .wrArt idx lo wd => some (busWord true (windowAddr idx) lo wd)
  | .rdRsv w lo wd => some (busWord false w lo wd)
  | .wrRsv w lo wd => some (busWord true w lo wd)
  | .produce | .pkXfer | .czByte _ _ | .czFail | .reset => none

/-! ## The opcode table, row by row -/

/-- The 22 transactions by name, in the order of R82. -/
inductive Transaction where
  | wrCmdNop | wrCmdStart | wrCmdRsv | rdCmd | rdStatus | wrStatus | rdTargetW | wrTargetW | rdTargetH | wrTargetH
  | rdConfig | wrConfig | rdSrcDim | wrSrcDim | rdPackedLen | wrPackedLen | rdArtLen | wrArtLen | rdArt | wrArt
  | rdRsv | wrRsv
deriving DecidableEq, Repr

/-- A row of spec/opcode_table.json over BT. -/
structure OpcodeRow where
  name : Transaction
  pattern : BusWord
  mask : BusWord
  priority : Nat
deriving DecidableEq, Repr

/-- A row matches a word whose masked bits are the row's pattern. -/
def OpcodeRow.fits (r : OpcodeRow) (bt : BusWord) : Bool := bt &&& r.mask = r.pattern

/-- Rows 1 to 10 of the table. -/
def opcodeRowsLow : List OpcodeRow := [
  ⟨.wrCmdNop, 0x1000000000000#49, 0x1FFFC0000000F#49, 0⟩,
  ⟨.wrCmdStart, 0x1000000000001#49, 0x1FFFC0000000F#49, 0⟩,
  ⟨.wrCmdRsv, 0x1000000000000#49, 0x1FFFC00000000#49, 1⟩,
  ⟨.rdCmd, 0x0000000000000#49, 0x1FFFC00000000#49, 0⟩,
  ⟨.rdStatus, 0x0000400000000#49, 0x1FFFC00000000#49, 0⟩,
  ⟨.wrStatus, 0x1000400000000#49, 0x1FFFC00000000#49, 0⟩,
  ⟨.rdTargetW, 0x0000800000000#49, 0x1FFFC00000000#49, 0⟩,
  ⟨.wrTargetW, 0x1000800000000#49, 0x1FFFC00000000#49, 0⟩,
  ⟨.rdTargetH, 0x0000C00000000#49, 0x1FFFC00000000#49, 0⟩,
  ⟨.wrTargetH, 0x1000C00000000#49, 0x1FFFC00000000#49, 0⟩]

/-- Rows 11 to 22 of the table. -/
def opcodeRowsHigh : List OpcodeRow := [
  ⟨.rdConfig, 0x0001000000000#49, 0x1FFFC00000000#49, 0⟩,
  ⟨.wrConfig, 0x1001000000000#49, 0x1FFFC00000000#49, 0⟩,
  ⟨.rdSrcDim, 0x0001400000000#49, 0x1FFFC00000000#49, 0⟩,
  ⟨.wrSrcDim, 0x1001400000000#49, 0x1FFFC00000000#49, 0⟩,
  ⟨.rdPackedLen, 0x0001800000000#49, 0x1FFFC00000000#49, 0⟩,
  ⟨.wrPackedLen, 0x1001800000000#49, 0x1FFFC00000000#49, 0⟩,
  ⟨.rdArtLen, 0x0001C00000000#49, 0x1FFFC00000000#49, 0⟩,
  ⟨.wrArtLen, 0x1001C00000000#49, 0x1FFFC00000000#49, 0⟩,
  ⟨.rdArt, 0x0400000000000#49, 0x1C00000000000#49, 0⟩,
  ⟨.wrArt, 0x1400000000000#49, 0x1C00000000000#49, 0⟩,
  ⟨.rdRsv, 0x0000000000000#49, 0x1000000000000#49, 2⟩,
  ⟨.wrRsv, 0x1000000000000#49, 0x1000000000000#49, 2⟩]

/-- The bus rows of spec/opcode_table.json, in its order (R82). -/
def opcodeRows : List OpcodeRow := opcodeRowsLow ++ opcodeRowsHigh

/-- The row a transaction belongs to. -/
def Instr.row : Instr → Option Transaction
  | .wrCmdNop _ _ => some .wrCmdNop
  | .wrCmdStart _ _ => some .wrCmdStart
  | .wrCmdRsv _ _ _ => some .wrCmdRsv
  | .rdCmd _ _ => some .rdCmd
  | .rdStatus _ _ => some .rdStatus
  | .wrStatus _ _ => some .wrStatus
  | .rdTargetW _ _ => some .rdTargetW
  | .wrTargetW _ _ => some .wrTargetW
  | .rdTargetH _ _ => some .rdTargetH
  | .wrTargetH _ _ => some .wrTargetH
  | .rdConfig _ _ => some .rdConfig
  | .wrConfig _ _ => some .wrConfig
  | .rdSrcDim _ _ => some .rdSrcDim
  | .wrSrcDim _ _ => some .wrSrcDim
  | .rdPackedLen _ _ => some .rdPackedLen
  | .wrPackedLen _ _ => some .wrPackedLen
  | .rdArtLen _ _ => some .rdArtLen
  | .wrArtLen _ _ => some .wrArtLen
  | .rdArt _ _ _ => some .rdArt
  | .wrArt _ _ _ => some .wrArt
  | .rdRsv _ _ _ => some .rdRsv
  | .wrRsv _ _ _ => some .wrRsv
  | .produce | .pkXfer | .czByte _ _ | .czFail | .reset => none

end Sys2Proof
end

