-- ==== Sys2Proof/Config.lean ====
section
/-! DEFINITION. What an implementation fixes: the parameters of `00_scope.md` R7, and the values the spec
leaves open, each an opaque constant with no body. -/

namespace Sys2Proof

/-- `TDIM_MAX` (R7): the largest legal target width and height. -/
abbrev Config.tdimMax : Nat := 255

/-- `ART_CAPACITY` (R7): the size of the artifact buffer in bytes. -/
abbrev Config.artCapacity : Nat := 16384

/-- The most compressed bytes one artifact holds: `ART_CAPACITY - 2` (R44, R182). -/
abbrev Config.czMax : Nat := 16382

/-- `PLEN_MAX` (R7): the largest packed length. -/
abbrev Config.plenMax : Nat := 8129

/-- What an ART byte with no entry in the memory list reads as. DESIGN CHOICE (log 9), unsafe: the spec gives
ART no reset contents (R47, U5). The host never observes it (R63). -/
def Config.unlistedByte : Byte := 0

/-- The type of a resampling kernel (R142): the in-range source samples in row-major order, LSW, LSH, LW,
LH and the target coordinate. A kernel sees no other sample (R143 law 3) and returns 8-bit channels (law 4). -/
abbrev Kernel := List Rgba → BitVec 16 → BitVec 16 → Byte → Byte → Nat → Nat → Rgba

/-- `RESAMPLE_KERNEL` on the sources that R143 law 2 does not decide. OPEN in the spec (R7, U1, U2; log 13). -/
opaque Config.openKernel : Kernel

/-- The free value of PKD the `n`-th time PKV becomes 0 (R43, U6; log 7). -/
opaque Config.freePkData : Nat → Byte

/-- The free value of PKL the `n`-th time PKV becomes 0 (R43, U6; log 7). -/
opaque Config.freePkLast : Nat → Bool

/-- The free contents of ART after a reset step (R47, R230, U5; log 8), as cells in any order. -/
opaque Config.freeArt : Nat → List Host.Cell

/-- `BLOCK_BASE` (R71, U4): where the platform places the block. OPEN in the spec (log 21). -/
opaque Config.blockBase : Nat

end Sys2Proof
end

