-- ==== Sys2Proof/Machine/State.lean ====
section
/-! DEFINITION. The machine's state: every register and internal register of `10_state.md`, the port signals that
outlive a step, what the external agents present, and the turns the agents will take. Its reset value. -/

namespace Sys2Proof.Machine

/-- PHASE (R39). Codes 5-7 are never entered (R39, U21), so they have no constructor (log 22). -/
inductive Phase where
  | idle | pack | drain | done | failed
deriving DecidableEq, Repr

/-- ERRCODE (R40, R87). -/
inductive ErrCode where
  | none | invalidParams | sourceUnavailable | compressionError
deriving DecidableEq, Repr

/-- The latched parameters (R36). -/
structure Latched where
  lw : Byte
  lh : Byte
  lt : Byte
  linv : Bool
  lsw : BitVec 16
  lsh : BitVec 16
deriving DecidableEq, Repr

/-- What the source presents on its port (R45): SRC_READY, SRC_WIDTH, SRC_HEIGHT and the samples. -/
structure Source where
  ready : Bool
  width : BitVec 16
  height : BitVec 16
  image : Image
deriving DecidableEq, Repr

/-- What passed between the block and the compressor since the last CMP_START (R168, R185; log 20): the PK
bytes taken, each with PK_LAST, and the CZ bytes the block accepted. -/
structure Streams where
  taken : List (Byte × Bool)
  sent : List Byte
deriving DecidableEq, Repr

/-- One turn of one agent (R5), with the inputs it drives in that step. -/
inductive Turn where
  /-- The host issues a transaction (R51, R80). -/
  | bus (bt : BusWord)
  /-- The sequencer's turn (R165). -/
  | sequencer
  /-- The compressor raises PK_READY (R166). -/
  | pkReady
  /-- The compressor drives the CZ port: CZ_VALID, CZ_DATA, CZ_LAST, CZ_ERROR (R46). -/
  | cz (valid : Bool) (data : Byte) (last : Bool) (error : Bool)
  /-- The reset agent (R230). -/
  | reset
  /-- The source presents an image (R45). -/
  | source (src : Source)
deriving DecidableEq, Repr

/-- A memory of bytes: (address, byte) pairs with addresses rising and none equal to `Config.unlistedByte`. -/
abbrev Memory := List Host.Cell

structure State where
  /-- TARGET_W.TW (R32). -/
  targetW : BitVec 16
  /-- TARGET_H.TH (R33). -/
  targetH : BitVec 16
  /-- CONFIG.THRESH (R34). -/
  thresh : Byte
  /-- CONFIG.INVERT (R34). -/
  invert : Bool
  /-- LW, LH, LT, LINV, LSW, LSH (R36). -/
  latched : Latched
  /-- PHASE (R39). -/
  phase : Phase
  /-- ERRCODE (R40). -/
  errcode : ErrCode
  /-- DROPPED (R41). -/
  dropped : Bool
  /-- KB (R42). -/
  kb : BitVec 14
  /-- PLEN (R48). -/
  plen : BitVec 14
  /-- CZN (R44). -/
  czn : BitVec 14
  /-- PKV (R43). -/
  pkv : Bool
  /-- PKD (R43). -/
  pkd : Byte
  /-- PKL (R43). -/
  pkl : Bool
  /-- ART (R47). -/
  art : Memory
  /-- CMP_START in the last step (R46, R101; log 12). -/
  cmpStart : Bool
  /-- HRDATA of the last host read (R51, R91; log 11). -/
  hrdata : HData
  /-- The source agent (R45). -/
  source : Source
  /-- What the compressor agent took and sent (R168, R185; log 20). -/
  streams : Streams
  /-- The model's own: the turns the agents will take, oldest first (log 1). -/
  pending : List Turn
  /-- The model's own: how many free values were drawn (log 7). -/
  freeCount : Nat
deriving DecidableEq, Repr

/-- Reasons to stop with a fault: none. No host access faults (R61), no encoding traps (R90), and a
conversion error is the phase FAILED, a next state (R203). -/
inductive Fault where
deriving DecidableEq, Repr

inductive Refusal where
  /-- Raised by `exec` alone, for an instruction with no meaning yet. Safe. -/
  | notModelled (mnemonic : String)
  /-- Raised by the source's turn, which is no instruction, when it would change what the source presents while
  BUSY = 1: R241 gives the source no such step (U7; log 15). Unsafe for a source that breaks R241. -/
  | sourceChangedWhileBusy
deriving DecidableEq, Repr

/-- The machine right after reset: the values of R230. PKD, PKL and ART, which R230 leaves unspecified, are
zero (log 9). The source presents nothing, and the model's own fields are empty (log 10). -/
def State.reset : State where
  targetW := 0
  targetH := 0
  thresh := 0
  invert := false
  latched := { lw := 0, lh := 0, lt := 0, linv := false, lsw := 0, lsh := 0 }
  phase := .idle
  errcode := .none
  dropped := false
  kb := 0
  plen := 0
  czn := 0
  pkv := false
  pkd := 0
  pkl := false
  art := []
  cmpStart := false
  hrdata := 0
  source := { ready := false, width := 0, height := 0, image := { background := ⟨0, 0, 0, 0⟩, pixels := [] } }
  streams := { taken := [], sent := [] }
  pending := []
  freeCount := 0

end Sys2Proof.Machine
end

