-- ==== Sys2Proof/Machine/Flags.lean ====
section
/-! DEFINITION. The STATUS flags and the STATUS word (`10_state.md` R24-R31, `30_encoding.md` R87, R88). -/

namespace Sys2Proof.Machine

/-- The code of PHASE (R39). -/
def Phase.code : Phase → BitVec 3
  | .idle => 0
  | .pack => 1
  | .drain => 2
  | .done => 3
  | .failed => 4

/-- The code of ERRCODE (R87). -/
def ErrCode.code : ErrCode → BitVec 2
  | .none => 0
  | .invalidParams => 1
  | .sourceUnavailable => 2
  | .compressionError => 3

/-- STATUS.BUSY: a conversion runs (R25). -/
def State.busy (s : State) : Bool := s.phase = .pack || s.phase = .drain

/-- STATUS.DONE (R26). -/
def State.isDone (s : State) : Bool := s.phase = .done

/-- STATUS.ERR (R27). -/
def State.isErr (s : State) : Bool := s.phase = .failed

/-- The STATUS word (R88). Bit 16 is the live SRC_READY (R31). -/
def State.statusWord (s : State) : HData :=
  (0#15 ++ BitVec.ofBool s.source.ready ++ 0#5 ++ s.phase.code ++ 0#2 ++ s.errcode.code ++ BitVec.ofBool s.dropped
    ++ BitVec.ofBool s.isErr ++ BitVec.ofBool s.isDone ++ BitVec.ofBool s.busy :
    BitVec (15 + 1 + 5 + 3 + 2 + 2 + 1 + 1 + 1 + 1))

end Sys2Proof.Machine
end

