-- ==== Sys2Proof/Machine/Operands.lean ====
section
/-! DEFINITION. How a write takes its fields from WDATA (`30_encoding.md` R83) and how a read lays its fields out
in HRDATA (R84). No field is sign-extended, scaled or shifted. -/

namespace Sys2Proof.Machine

/-- A target dimension: WDATA[15:0]. -/
def fieldDim (wd : HData) : BitVec 16 := wd.extractLsb' 0 16

/-- CONFIG.THRESH: WDATA[7:0]. -/
def fieldThresh (wd : HData) : Byte := wd.extractLsb' 0 8

/-- CONFIG.INVERT: WDATA[8]. -/
def fieldInvert (wd : HData) : Bool := wd.getLsbD 8

/-- `zext_32` (R9, R84). -/
def zext32 {n : Nat} (v : BitVec n) : HData := v.setWidth 32

/-- `zext_32({INVERT, THRESH})` (R84, R111). -/
def configWord (invert : Bool) (thresh : Byte) : HData := zext32 (BitVec.ofBool invert ++ thresh)

/-- `{SRC_HEIGHT, SRC_WIDTH}` (R84, R113). -/
def dimWord (height width : BitVec 16) : HData := (height ++ width : BitVec (16 + 16))

/-- The low byte of a 16-bit dimension, `TW[7:0]` (R36). -/
def lowByte (v : BitVec 16) : Byte := v.extractLsb' 0 8

/-- The four lanes of a window word, lowest index in bits [7:0] (R62, R65). -/
def laneWord (b3 b2 b1 b0 : Byte) : HData := (b3 ++ b2 ++ b1 ++ b0 : BitVec (8 + 8 + 8 + 8))

end Sys2Proof.Machine
end

