-- ==== Sys2Proof/Machine/Ops.lean ====
section
/-! DEFINITION. The shared operations: the artifact buffer, the PK register, validation, failing a conversion
(the block's one exception, `60_exceptions.md` R203), the header and the commit (`43_prepender.md` R180, R183),
and what the host sees of the artifact (`20_memory.md` R62, R63). -/

namespace Sys2Proof.Machine

/-! ## The artifact buffer -/

/-- The canonical form: addresses strictly rising, inside ART (R47), and no entry equal to what an unlisted
address reads as. -/
abbrev Memory.wf (m : Memory) : Prop :=
  m.Pairwise (fun c d => c.1 < d.1) ∧ ∀ c ∈ m, c.1 < Config.artCapacity ∧ c.2 ≠ Config.unlistedByte

/-- Read one byte. -/
def Memory.read : Memory → Nat → Byte
  | [], _ => Config.unlistedByte
  | c :: m, a => if c.1 = a then c.2 else Memory.read m a

/-- Put a cell before `m`, unless it says what an unlisted address reads as. -/
def Memory.push (m : Memory) (a : Nat) (b : Byte) : Memory :=
  if b = Config.unlistedByte then m else (a, b) :: m

/-- Write one byte, keeping the canonical form. -/
def Memory.write : Memory → Nat → Byte → Memory
  | [], a, b => Memory.push [] a b
  | c :: m, a, b =>
    if a < c.1 then Memory.push (c :: m) a b
    else if a = c.1 then Memory.push m a b
    else c :: Memory.write m a b

/-- The memory with the given cells of ART, the later of two cells for one address counting. -/
def Memory.ofCells (cells : List Host.Cell) : Memory :=
  cells.foldl (fun m c => if c.1 < Config.artCapacity then Memory.write m c.1 c.2 else m) []

/-! ## The ports -/

/-- `HRDATA <- v` of a host read (R84). A read changes no state of the block (R70). -/
def State.respond (s : State) (v : HData) : State := { s with hrdata := v }

/-- `PKV <- 0`. PKD and PKL mean nothing while PKV = 0 and are free values (R43, R167, U6; log 7). -/
def State.endOffer (s : State) : State :=
  { s with
    pkv := false
    pkd := Config.freePkData s.freeCount
    pkl := Config.freePkLast s.freeCount
    freeCount := s.freeCount + 1 }

/-- The byte on offer on the PK stream: PK_DATA and PK_LAST while PK_VALID = 1 (R46, R167). -/
def State.pkOffer (s : State) : Option (Byte × Bool) := if s.pkv then some (s.pkd, s.pkl) else none

/-- CZ_READY is constant 1 (R46). -/
def State.czReady (_s : State) : Bool := true

/-- The system address of an address of the block: all addresses are offsets from `BLOCK_BASE` (R71; log 21). -/
def systemAddress (a : HAddr) : Nat := Config.blockBase + a.toNat

/-! ## Taking an error, and leaving it -/

/-- `raise Fail(code)`, the only way a conversion fails (R203). -/
def State.fail (s : State) (code : ErrCode) : State :=
  { s.endOffer with errcode := code, phase := .failed }

/-- `Validate(TW, TH) = OK` (R103). -/
def validParams (tw th : BitVec 16) : Bool :=
  !(tw = 0 || th = 0 || Config.tdimMax < tw.toNat || Config.tdimMax < th.toNat)

/-- The source can be converted: ready, and neither dimension zero (R101, R201). -/
def Source.available (src : Source) : Bool := src.ready && !(src.width = 0) && !(src.height = 0)

/-- A START that is not dropped first clears DROPPED and ERRCODE (R40, R101): the only return from FAILED
beside a reset (R208). -/
def State.acceptStart (s : State) : State := { s with dropped := false, errcode := .none }

/-! ## The artifact -/

/-- `PackedLength(LW, LH) = (LW * LH + 7) div 8` (R160). -/
def packedLength (lw lh : Byte) : Nat := (lw.toNat * lh.toNat + 7) / 8

/-- `PrependHeader()`: ART[0] and ART[1] (R180). -/
def State.prependHeader (s : State) : State :=
  { s with art := Memory.write (Memory.write s.art 0 s.latched.lw) 1 s.latched.lh }

/-- `Commit()` (R183). -/
def State.commit (s : State) : State := { s with phase := .done }

/-- The index a compressed byte is stored at, `2 + CZN` (R182). -/
def State.czIndex (s : State) : Nat := 2 + s.czn.toNat

/-- The length of the artifact while it is committed, `2 + CZN`, else 0 (R38). -/
def State.artLen (s : State) : BitVec 16 := if s.phase = .done then BitVec.ofNat 16 (2 + s.czn.toNat) else 0

/-- `V(j)`, the value the window shows for byte index `j` (R63). -/
def State.visibleByte (s : State) (j : Nat) : Byte :=
  if s.phase = .done ∧ j < 2 + s.czn.toNat then Memory.read s.art j else 0

/-- The byte index of lane 0 of window word `idx`, `{idx, 0b00}` (R62). -/
def windowIndex (idx : BitVec 12) : Nat := 4 * idx.toNat

/-- The word the window shows (R62). -/
def State.windowWord (s : State) (idx : BitVec 12) : HData :=
  let i := windowIndex idx
  laneWord (s.visibleByte (i + 3)) (s.visibleByte (i + 2)) (s.visibleByte (i + 1)) (s.visibleByte i)

end Sys2Proof.Machine
end

