-- ==== Sys2Proof/Machine/Agents.lean ====
section
/-! DEFINITION. From an agent's turn to the instruction it runs (`00_scope.md` R5, `30_encoding.md` R82, R89). -/

namespace Sys2Proof.Machine

/-- The instruction a turn runs, or none. CZ_ERROR comes before any byte on CZ_VALID (R182, R206); a CZ port with
neither raised is no step (log 2). The source's turn is no row of the table (R89). -/
def Turn.instr : Turn → Option Instr
  | .bus bt => some (decode bt)
  | .sequencer => some .produce
  | .pkReady => some .pkXfer
  | .cz valid data last error =>
    if error then some .czFail else if valid then some (.czByte data last) else none
  | .reset => some .reset
  | .source _ => none

/-- The source presents `src` (R45). While BUSY = 1 it must stay as it is (R241; log 15). -/
def State.present (s : State) (src : Source) : Host.Outcome State Fault Refusal :=
  if s.busy then (if src = s.source then .next s else .refused .sourceChangedWhileBusy)
  else .next { s with source := src }

/-- The start of a step: the turn taken leaves the list, and a CMP_START pulse of the step before has ended
(R10, R46; log 12). -/
def State.beginStep (s : State) (rest : List Turn) : State := { s with pending := rest, cmpStart := false }

end Sys2Proof.Machine
end

