-- ==== Sys2Proof/Machine/Command.lean ====
section
/-! DEFINITION. The CMD transactions (`40_host_interface.md` R100-R104). -/

namespace Sys2Proof.Machine

/-- R100: no state changes. -/
def execWrCmdNop (_lo : BitVec 2) (_hi : BitVec 28) (s : State) : Host.Outcome State Fault Refusal := .next s

/-- The copies taken at START (R36, R101). -/
def State.latchedNow (s : State) : Latched where
  lw := lowByte s.targetW
  lh := lowByte s.targetH
  lt := s.thresh
  linv := s.invert
  lsw := s.source.width
  lsh := s.source.height

/-- The last branch of R101: a START that begins a conversion. CMP_START makes the compressor begin a new
stream (R46). -/
def State.beginConversion (s : State) : State :=
  let l := s.latchedNow
  let t := { s with
    latched := l
    plen := BitVec.ofNat 14 (packedLength l.lw l.lh)
    kb := 0
    czn := 0 }
  { t.endOffer.prependHeader with
    cmpStart := true
    streams := { taken := [], sent := [] }
    phase := .pack }

/-- START (R101), its checks in the order of R205. -/
def State.start (s : State) : State :=
  if s.busy then { s with dropped := true }
  else if !validParams s.targetW s.targetH then ({ s.acceptStart with plen := 0 } : State).fail .invalidParams
  else if !s.source.available then ({ s.acceptStart with plen := 0 } : State).fail .sourceUnavailable
  else s.acceptStart.beginConversion

/-- R101. -/
def execWrCmdStart (_lo : BitVec 2) (_hi : BitVec 28) (s : State) : Host.Outcome State Fault Refusal := .next s.start

/-- R102: no state changes (log 5). -/
def execWrCmdRsv (_op : BitVec 4) (_lo : BitVec 2) (_hi : BitVec 28) (s : State) :
    Host.Outcome State Fault Refusal := .next s

/-- R104. -/
def execRdCmd (_lo : BitVec 2) (_wd : HData) (s : State) : Host.Outcome State Fault Refusal := .next (s.respond 0)

end Sys2Proof.Machine
end

