-- ==== Sys2Proof/Machine/Binarizer.lean ====
section
/-! DEFINITION. The binarizer (`41_binarizer.md` R140-R151): the scan order, RESAMPLE, LUMA and CLASSIFY, as functions
of the latched parameters and what the source presents. -/

namespace Sys2Proof.Machine

/-- `Sample(sx, sy)` (R10, R45). -/
def sampleAt (img : Image) (sx sy : Nat) : Rgba :=
  match img.pixels.find? (fun p => p.1 = sx ∧ p.2.1 = sy) with
  | some p => p.2.2
  | none => img.background

/-- The samples a kernel may read, `sx < w` and `sy < h`, in row-major order (R67, R143 law 3). -/
def inRangeSamples (img : Image) (w h : Nat) : List Rgba :=
  (List.range h).flatMap fun sy => (List.range w).map fun sx => sampleAt img sx sy

/-- The one colour of a source whose samples are all equal (R143 law 2). -/
def uniformColour : List Rgba → Option Rgba
  | [] => none
  | c :: cs => if cs.all (fun d => d = c) then some c else none

/-- A kernel made to keep uniform sources, R143 law 2 (log 13). A kernel that keeps them already is unchanged. -/
def admissible (K : Kernel) : Kernel := fun samples lsw lsh lw lh x y =>
  match uniformColour samples with
  | some c => c
  | none => K samples lsw lsh lw lh x y

/-- `RESAMPLE_KERNEL` of this block (R7, R142). -/
def blockKernel : Kernel := admissible Config.openKernel

/-- RESAMPLE: target pixel (x, y) (R142), through the kernel `K`. -/
def resample (K : Kernel) (l : Latched) (img : Image) (x y : Nat) : Rgba :=
  K (inRangeSamples img l.lsw.toNat l.lsh.toNat) l.lsw l.lsh l.lw l.lh x y

/-- LUMA: the luminance times 1000, exactly; alpha is no operand (R145, R146; log 17). -/
def luma1000 (p : Rgba) : Nat := 299 * p.r.toNat + 587 * p.g.toNat + 114 * p.b.toNat

/-- CLASSIFY (R147): strictly above the threshold, XOR invert. -/
def classify (p : Rgba) (lt : Byte) (linv : Bool) : Bool :=
  Bool.xor (1000 * lt.toNat < luma1000 p) linv

/-- N, the pixel count of the conversion (R141). -/
def pixelCount (l : Latched) : Nat := l.lw.toNat * l.lh.toNat

/-- `On(i)`, the bit of pixel `i` of the scan order (R140, R147, R148). -/
def onBit (K : Kernel) (l : Latched) (img : Image) (i : Nat) : Bool :=
  classify (resample K l img (i % l.lw.toNat) (i / l.lw.toNat)) l.lt l.linv

/-- `Bits`, the classified image (R151). -/
def classifiedBits (K : Kernel) (l : Latched) (img : Image) : List Bool :=
  (List.range (pixelCount l)).map (onBit K l img)

end Sys2Proof.Machine
end

