-- ==== Sys2Proof/Machine/Packer.lean ====
section
/-! DEFINITION. The bit-packer (`42_packer.md` R160-R168): the packed byte, PRODUCE and PK_XFER. -/

namespace Sys2Proof.Machine

/-- Lane `p` of packed byte `k`: `On(8k+p) << (7-p)` if pixel `8k+p` exists, else 0 (R161, R164). -/
def lane (n : Nat) (on : Nat → Bool) (k p : Nat) : Nat :=
  if 8 * k + p < n then (on (8 * k + p)).toNat <<< (7 - p) else 0

/-- `PackedByte(k)` of `n` pixels with classifications `on`, the sum of its eight lanes (R161). -/
def packByte (n : Nat) (on : Nat → Bool) (k : Nat) : Byte :=
  BitVec.ofNat 8 (lane n on k 0 + lane n on k 1 + lane n on k 2 + lane n on k 3
    + lane n on k 4 + lane n on k 5 + lane n on k 6 + lane n on k 7)

/-- `PackedByte(k)` of the current conversion (R161). -/
def packedByte (K : Kernel) (l : Latched) (img : Image) (k : Nat) : Byte :=
  packByte (pixelCount l) (onBit K l img) k

/-- The packed bitmap `Pack(Bits)` of the current conversion (R163). -/
def packedBitmap (K : Kernel) (l : Latched) (img : Image) : List Byte :=
  (List.range (packedLength l.lw l.lh)).map (packedByte K l img)

/-- What the PK stream carries in a whole conversion: the packed bitmap, PK_LAST on its last byte only (R168). -/
def packedStream (K : Kernel) (l : Latched) (img : Image) : List (Byte × Bool) :=
  (List.range (packedLength l.lw l.lh)).map
    fun k => (packedByte K l img k, decide (k + 1 = packedLength l.lw l.lh))

/-- PRODUCE is enabled (R165). -/
def State.produceEnabled (s : State) : Bool := s.phase = .pack && !s.pkv && s.kb.toNat < s.plen.toNat

/-- PRODUCE computes the next packed byte and offers it (R165). -/
def State.offerNext (s : State) : State :=
  { s with
    pkd := packedByte blockKernel s.latched s.source.image s.kb.toNat
    pkl := s.kb.toNat + 1 = s.plen.toNat
    pkv := true }

/-- R165. A turn in which PRODUCE is not enabled passes (log 2). -/
def execProduce (s : State) : Host.Outcome State Fault Refusal :=
  .next (if s.produceEnabled then s.offerNext else s)

/-- The delivery of R166: the compressor has (PKD, PKL), and KB counts it. -/
def State.deliver (s : State) : State :=
  { s with
    streams := { s.streams with taken := s.streams.taken ++ [(s.pkd, s.pkl)] }
    kb := s.kb + 1 }

/-- `PHASE <- DRAIN` (R166). -/
def State.enterDrain (s : State) : State := { s with phase := .drain }

/-- PK_XFER: the compressor takes the offered byte, the last one ending PACK (R166). -/
def State.takeOffer (s : State) : State :=
  if s.pkl then s.deliver.endOffer.enterDrain else s.deliver.endOffer

/-- R166. PK_READY without PK_VALID transfers nothing (R46, R68; log 2). -/
def execPkXfer (s : State) : Host.Outcome State Fault Refusal :=
  .next (if s.pkv then s.takeOffer else s)

end Sys2Proof.Machine
end

