-- ==== Sys2Proof/Machine/Prepender.lean ====
section
/-! DEFINITION. The header prepender's steps (`43_prepender.md` R182-R184). -/

namespace Sys2Proof.Machine

/-- `ART[2 + CZN] <- CZ_DATA; CZN <- CZN + 1` (R182). -/
def State.storeCz (s : State) (data : Byte) : State :=
  { s with
    art := Memory.write s.art s.czIndex data
    czn := s.czn + 1
    streams := { s.streams with sent := s.streams.sent ++ [data] } }

/-- CZ_BYTE (R182), the checks in the order of R206: a byte outside PACK and DRAIN is discarded, then overflow,
then the byte is stored, then an early last byte fails and a last byte in DRAIN commits. The overflow test is
`CZN = 16382` in every state of R50 clause 6 (log 18). -/
def State.czByte (s : State) (data : Byte) (last : Bool) : State :=
  if !s.busy then s
  else if Config.czMax ≤ s.czn.toNat then s.fail .compressionError
  else if !last then s.storeCz data
  else if s.phase = .pack then (s.storeCz data).fail .compressionError
  else (s.storeCz data).commit

/-- R182. -/
def execCzByte (data : Byte) (last : Bool) (s : State) : Host.Outcome State Fault Refusal :=
  .next (s.czByte data last)

/-- R184. -/
def execCzFail (s : State) : Host.Outcome State Fault Refusal :=
  .next (if s.busy then s.fail .compressionError else s)

end Sys2Proof.Machine
end

