-- ==== Sys2Proof/Machine/Registers.lean ====
section
/-! DEFINITION. The register reads and writes (`40_host_interface.md` R105-R118). -/

namespace Sys2Proof.Machine

/-- R105. -/
def execRdStatus (_lo : BitVec 2) (_wd : HData) (s : State) : Host.Outcome State Fault Refusal :=
  .next (s.respond s.statusWord)

/-- R106: no state changes. -/
def execWrStatus (_lo : BitVec 2) (_wd : HData) (s : State) : Host.Outcome State Fault Refusal := .next s

/-- R107. -/
def execRdTargetW (_lo : BitVec 2) (_wd : HData) (s : State) : Host.Outcome State Fault Refusal :=
  .next (s.respond (zext32 s.targetW))

/-- R108: any value is stored, in every phase. -/
def execWrTargetW (_lo : BitVec 2) (wd : HData) (s : State) : Host.Outcome State Fault Refusal :=
  .next { s with targetW := fieldDim wd }

/-- R109. -/
def execRdTargetH (_lo : BitVec 2) (_wd : HData) (s : State) : Host.Outcome State Fault Refusal :=
  .next (s.respond (zext32 s.targetH))

/-- R110: any value is stored, in every phase. -/
def execWrTargetH (_lo : BitVec 2) (wd : HData) (s : State) : Host.Outcome State Fault Refusal :=
  .next { s with targetH := fieldDim wd }

/-- R111. -/
def execRdConfig (_lo : BitVec 2) (_wd : HData) (s : State) : Host.Outcome State Fault Refusal :=
  .next (s.respond (configWord s.invert s.thresh))

/-- R112. -/
def execWrConfig (_lo : BitVec 2) (wd : HData) (s : State) : Host.Outcome State Fault Refusal :=
  .next { s with thresh := fieldThresh wd, invert := fieldInvert wd }

/-- R113: the live inputs, not the latched size. -/
def execRdSrcDim (_lo : BitVec 2) (_wd : HData) (s : State) : Host.Outcome State Fault Refusal :=
  .next (s.respond (dimWord s.source.height s.source.width))

/-- R114: no state changes. -/
def execWrSrcDim (_lo : BitVec 2) (_wd : HData) (s : State) : Host.Outcome State Fault Refusal := .next s

/-- R115. -/
def execRdPackedLen (_lo : BitVec 2) (_wd : HData) (s : State) : Host.Outcome State Fault Refusal :=
  .next (s.respond (zext32 s.plen))

/-- R116: no state changes. -/
def execWrPackedLen (_lo : BitVec 2) (_wd : HData) (s : State) : Host.Outcome State Fault Refusal := .next s

/-- R117. -/
def execRdArtLen (_lo : BitVec 2) (_wd : HData) (s : State) : Host.Outcome State Fault Refusal :=
  .next (s.respond (zext32 s.artLen))

/-- R118: no state changes. -/
def execWrArtLen (_lo : BitVec 2) (_wd : HData) (s : State) : Host.Outcome State Fault Refusal := .next s

end Sys2Proof.Machine
end

