-- ==== Sys2Proof/Machine/ResetStep.lean ====
section
/-! DEFINITION. The step RESET (`70_reset_and_hazards.md` R230). -/

namespace Sys2Proof.Machine

/-- Every register of the block at its reset value (R230). PKD, PKL and ART are unspecified there and are free
values (log 8). The source, the host's last read, what the compressor took and sent, and the turns to come belong
to other agents and stay. -/
def State.doReset (s : State) : State :=
  { s.endOffer with
    targetW := 0
    targetH := 0
    thresh := 0
    invert := false
    latched := { lw := 0, lh := 0, lt := 0, linv := false, lsw := 0, lsh := 0 }
    phase := .idle
    errcode := .none
    dropped := false
    kb := 0
    plen := 0
    czn := 0
    art := Memory.ofCells (Config.freeArt s.freeCount)
    cmpStart := false }

/-- R230. -/
def execReset (s : State) : Host.Outcome State Fault Refusal := .next s.doReset

end Sys2Proof.Machine
end

