-- ==== Sys2Proof/Machine/Window.lean ====
section
/-! DEFINITION. The ART window and the reserved space (`40_host_interface.md` R119-R122). -/

namespace Sys2Proof.Machine

/-- R119. -/
def execRdArt (idx : BitVec 12) (_lo : BitVec 2) (_wd : HData) (s : State) : Host.Outcome State Fault Refusal :=
  .next (s.respond (s.windowWord idx))

/-- R120: no state changes. -/
def execWrArt (_idx : BitVec 12) (_lo : BitVec 2) (_wd : HData) (s : State) : Host.Outcome State Fault Refusal :=
  .next s

/-- R121: reads 0 (log 5). -/
def execRdRsv (_w : WordAddr) (_lo : BitVec 2) (_wd : HData) (s : State) : Host.Outcome State Fault Refusal :=
  .next (s.respond 0)

/-- R122: no state changes (log 5). -/
def execWrRsv (_w : WordAddr) (_lo : BitVec 2) (_wd : HData) (s : State) : Host.Outcome State Fault Refusal :=
  .next s

end Sys2Proof.Machine
end

