-- ==== Sys2Proof/Machine/Dispatch.lean ====
section
/-! DEFINITION. One arm for each instruction. -/

namespace Sys2Proof.Machine

def exec (i : Instr) (s : State) : Host.Outcome State Fault Refusal :=
  match i with
  | .wrCmdNop lo hi => Sys2Proof.Machine.execWrCmdNop lo hi s
  | .wrCmdStart lo hi => Sys2Proof.Machine.execWrCmdStart lo hi s
  | .wrCmdRsv op lo hi => Sys2Proof.Machine.execWrCmdRsv op lo hi s
  | .rdCmd lo wd => Sys2Proof.Machine.execRdCmd lo wd s
  | .rdStatus lo wd => Sys2Proof.Machine.execRdStatus lo wd s
  | .wrStatus lo wd => Sys2Proof.Machine.execWrStatus lo wd s
  | .rdTargetW lo wd => Sys2Proof.Machine.execRdTargetW lo wd s
  | .wrTargetW lo wd => Sys2Proof.Machine.execWrTargetW lo wd s
  | .rdTargetH lo wd => Sys2Proof.Machine.execRdTargetH lo wd s
  | .wrTargetH lo wd => Sys2Proof.Machine.execWrTargetH lo wd s
  | .rdConfig lo wd => Sys2Proof.Machine.execRdConfig lo wd s
  | .wrConfig lo wd => Sys2Proof.Machine.execWrConfig lo wd s
  | .rdSrcDim lo wd => Sys2Proof.Machine.execRdSrcDim lo wd s
  | .wrSrcDim lo wd => Sys2Proof.Machine.execWrSrcDim lo wd s
  | .rdPackedLen lo wd => Sys2Proof.Machine.execRdPackedLen lo wd s
  | .wrPackedLen lo wd => Sys2Proof.Machine.execWrPackedLen lo wd s
  | .rdArtLen lo wd => Sys2Proof.Machine.execRdArtLen lo wd s
  | .wrArtLen lo wd => Sys2Proof.Machine.execWrArtLen lo wd s
  | .rdArt idx lo wd => Sys2Proof.Machine.execRdArt idx lo wd s
  | .wrArt idx lo wd => Sys2Proof.Machine.execWrArt idx lo wd s
  | .rdRsv w lo wd => Sys2Proof.Machine.execRdRsv w lo wd s
  | .wrRsv w lo wd => Sys2Proof.Machine.execWrRsv w lo wd s
  | .produce => Sys2Proof.Machine.execProduce s
  | .pkXfer => Sys2Proof.Machine.execPkXfer s
  | .czByte data last => Sys2Proof.Machine.execCzByte data last s
  | .czFail => Sys2Proof.Machine.execCzFail s
  | .reset => Sys2Proof.Machine.execReset s

end Sys2Proof.Machine
end

