-- ==== Sys2Proof/Machine/Step.lean ====
section
/-! DEFINITION. One step of the machine: one atomic step of one agent (`00_scope.md` R5, R6). -/

namespace Sys2Proof.Machine

/-- Run one turn. -/
def runTurn (t : Turn) (s : State) : Host.Outcome State Fault Refusal :=
  match t with
  | .source src => s.present src
  | t =>
    match t.instr with
    | some i => exec i s
    | none => .next s

/-- The first waiting turn runs (log 1). With none waiting the sequencer moves: PRODUCE is weakly fair (R247),
and the block is quiescent when it is not enabled (R217; log 3). -/
def step (s : State) : Host.Outcome State Fault Refusal :=
  match s.pending with
  | [] => exec .produce (s.beginStep [])
  | t :: rest => runTurn t (s.beginStep rest)

/-- The state whose next turn is the host issuing the transaction word `w` (R51, R80; log 4). A number with a bit
above BT[48] is no transaction (`decodeNumber` rejects it), so the port cannot carry it and nothing is placed. -/
def State.withFetchWord (s : State) (nbits w : Nat) : State :=
  if w % 2 ^ nbits < 2 ^ 49 then { s with pending := .bus (BitVec.ofNat 49 (w % 2 ^ nbits)) :: s.pending } else s

end Sys2Proof.Machine
end

