-- ==== Sys2Proof/Machine/Assembly.lean ====
section
/-! DEFINITION. The host's lines and pseudo-instructions (`30_encoding.md` R91, R92): the transactions each stands for, the
words its reads bring to the host's variables, and the host's loops. -/

namespace Sys2Proof.Machine

/-- `WR <addr>, <data>` (R91). -/
def writeWord (a : HAddr) (d : HData) : BusWord := (1#1 ++ a ++ d : BitVec (1 + 16 + 32))

/-- `RD <addr>` (R91): WDATA is written 0. -/
def readWord (a : HAddr) : BusWord := (0#1 ++ a ++ 0#32 : BitVec (1 + 16 + 32))

/-- One line of a host program that is no loop (R91, R92). -/
inductive HostLine where
  /-- `WR <addr>, <data>`. -/
  | wr (a : HAddr) (d : HData)
  /-- `RD <addr> -> <var>`. -/
  | rd (a : HAddr)
  /-- `NOP`. -/
  | nop
  /-- `START`. -/
  | start
  /-- `CFG <w>, <h>, <t>, <inv>`. -/
  | cfg (w h t inv : HData)
  /-- `READART <n> -> <buf>`. -/
  | readArt (n : Nat)
deriving DecidableEq, Repr

/-- The transactions a line expands to (R92). -/
def HostLine.words : HostLine → List BusWord
  | .wr a d => [writeWord a d]
  | .rd a => [readWord a]
  | .nop => [writeWord 0x0000 0]
  | .start => [writeWord 0x0000 1]
  | .cfg w h t inv => [writeWord 0x0008 w, writeWord 0x000C h, writeWord 0x0010 ((inv <<< 8) ||| t)]
  | .readArt n => (List.range ((n + 3) / 4)).map fun m => readWord (BitVec.ofNat 16 (0x4000 + 4 * m))

/-- The step in which the host issues `bt` (R51): its turn comes before those that wait (log 1). -/
def issueOne (bt : BusWord) (s : State) : Host.Outcome State Fault Refusal :=
  step { s with pending := .bus bt :: s.pending }

/-- The host issues transactions one after the other, one step each, with no other agent between them (log 23): the
words its reads return, in order, and the state after them (R91). A transaction that did not complete would end it. -/
def issue : List BusWord → State → List HData × State
  | [], s => ([], s)
  | bt :: bts, s =>
    match issueOne bt s with
    | .next t =>
      let r := issue bts t
      (if (decode bt).isRead then t.hrdata :: r.1 else r.1, r.2)
    | _ => ([], s)

/-- The buffer READART fills from the words it read: `buf[4m+j] <- w[8j+7:8j]` for `4m+j < n` (R92). -/
def artBytes (n : Nat) (ws : List HData) : List Byte :=
  (ws.flatMap fun w => [w.extractLsb' 0 8, w.extractLsb' 8 8, w.extractLsb' 16 8, w.extractLsb' 24 8]).take n

/-- `POLL <addr>, <mask>, <value>` (R92; log 23), at most `rounds` reads: read, and stop when the masked word is the
value, else let one other turn happen and read again. None when the rounds are used up or the machine stops: the loop
is the host's and ends only if the field reaches the value. -/
def poll (a : HAddr) (mask value : HData) : Nat → State → Option State
  | 0, _ => none
  | rounds + 1, s =>
    match issueOne (readWord a) s with
    | .next t =>
      if t.hrdata &&& mask = value then some t
      else
        match step t with
        | .next u => poll a mask value rounds u
        | _ => none
    | _ => none

/-- `WAITIDLE`: wait until BUSY = 0 (R92). -/
def waitIdle (rounds : Nat) (s : State) : Option State := poll 0x0004 1 0 rounds s

end Sys2Proof.Machine
end

