-- ==== Sys2Proof/Safety.lean ====
section
/-! DEFINITION. What counts as a safe run: the turns software and the platform are meant to take, the invariants of
a reachable state (`10_state.md` R50), what passes on the streams (R168, R185), and the premises of R144 and R181. -/

namespace Sys2Proof

/-- The transactions `93_implementation_defined.md` U9-U12 leave to software: no reserved OP, no reserved address, no
unaligned address, and no set reserved bit in a write of CMD, TARGET_W, TARGET_H or CONFIG. A write to STATUS, SRC_DIM,
PACKED_LEN, ART_LEN or the window is admitted with any WDATA: rows 2 and 3 of R90 overlap there, and that row 3 decides
is the model's reading (log 24). The machine runs the others too, with the block's effect (log 5). -/
def Instr.admitted : Instr → Bool
  | .wrCmdNop lo hi | .wrCmdStart lo hi => lo = 0 && hi = 0
  | .wrCmdRsv _ _ _ | .rdRsv _ _ _ | .wrRsv _ _ _ => false
  | .wrTargetW lo wd | .wrTargetH lo wd => lo = 0 && wd.extractLsb' 16 16 = 0
  | .wrConfig lo wd => lo = 0 && wd.extractLsb' 9 23 = 0
  | .rdCmd lo _ | .rdStatus lo _ | .rdTargetW lo _ | .rdTargetH lo _ | .rdConfig lo _ | .rdSrcDim lo _
  | .rdPackedLen lo _ | .rdArtLen lo _ | .rdArt _ lo _ | .wrStatus lo _ | .wrSrcDim lo _ | .wrPackedLen lo _
  | .wrArtLen lo _ | .wrArt _ lo _ => lo = 0
  | .produce | .pkXfer | .czByte _ _ | .czFail | .reset => true

namespace Machine

/-- A turn the machine refuses: the source changes what it presents while BUSY = 1 (R241, U7). -/
def State.movesSource (s : State) (t : Turn) : Prop := s.busy = true ∧ ∃ src, t = .source src ∧ src ≠ s.source

/-- The invariants of R50, with what they need to be kept by every step. Clause 2 is stated in every state but those a
START that fails leads to: that START sets PLEN to 0 and leaves KB (R42, R48, R101; log 19). In those PLEN is 0 and KB
keeps its range. -/
structure State.Inv (s : State) : Prop where
  /-- R50 clause 2, COMPRESSION_ERROR included. -/
  kbWithinPlen : s.errcode = .none ∨ s.errcode = .compressionError → s.kb.toNat ≤ s.plen.toNat
  /-- R48: after a START that fails PLEN is 0. -/
  startFailed : s.errcode = .invalidParams ∨ s.errcode = .sourceUnavailable → s.plen = 0
  /-- R21: KB never passes the largest packed length, in FAILED too. -/
  kbBound : s.kb.toNat ≤ Config.plenMax
  /-- R50 clause 2. -/
  plenBound : s.plen.toNat ≤ Config.plenMax
  /-- R39: in PACK the last byte has not been taken. -/
  packing : s.phase = .pack → s.kb.toNat < s.plen.toNat
  /-- R50 clause 3. -/
  offerInPack : s.pkv = true → s.phase = .pack
  /-- R165: PKL marks the last byte. -/
  offerLast : s.pkv = true → s.pkl = decide (s.kb.toNat + 1 = s.plen.toNat)
  /-- R50 clause 4, and R183: in DONE every byte was taken too. -/
  drained : s.phase = .drain ∨ s.phase = .done → s.kb = s.plen
  /-- R50 clause 5. -/
  running : s.phase = .pack ∨ s.phase = .drain ∨ s.phase = .done →
    1 ≤ s.latched.lw.toNat ∧ 1 ≤ s.latched.lh.toNat ∧ s.plen.toNat = packedLength s.latched.lw s.latched.lh ∧
      Memory.read s.art 0 = s.latched.lw ∧ Memory.read s.art 1 = s.latched.lh
  /-- R50 clause 6. -/
  cznBound : s.czn.toNat ≤ Config.czMax
  /-- R183: a committed artifact has a compressed byte. -/
  committed : s.phase = .done → 1 ≤ s.czn.toNat
  /-- R50 clause 7. -/
  errcode : s.errcode = .none ↔ s.phase ≠ .failed
  /-- R241: the source stays as START saw it. -/
  sourceHeld : s.busy = true → s.source.ready = true ∧ s.source.width = s.latched.lsw ∧
    s.source.height = s.latched.lsh ∧ s.latched.lsw ≠ 0 ∧ s.latched.lsh ≠ 0
  /-- The buffer keeps its canonical form. -/
  artWf : Memory.wf s.art

/-- The streams of the current conversion: the PK bytes taken are the packed bitmap's first KB (R168), the byte on
offer is the next (R165), and the CZ bytes accepted are what ART holds after the header (R185). -/
structure State.StreamInv (s : State) : Prop where
  taken : s.busy = true →
    s.streams.taken = (packedStream blockKernel s.latched s.source.image).take s.kb.toNat
  offered : s.pkv = true → s.pkd = packedByte blockKernel s.latched s.source.image s.kb.toNat
  sentLength : s.phase = .pack ∨ s.phase = .drain ∨ s.phase = .done → s.streams.sent.length = s.czn.toNat
  sentStored : s.phase = .pack ∨ s.phase = .drain ∨ s.phase = .done →
    ∀ j, j < s.czn.toNat → s.streams.sent[j]? = some (Memory.read s.art (2 + j))

/-- The compressed bytes of the buffer, `ART[2 .. 1+CZN]` (R185). -/
def State.payload (s : State) : List Byte := (List.range s.czn.toNat).map fun j => Memory.read s.art (2 + j)

/-- The compressor keeps its contract in this stream (R181), for the format `decompress` inverts: at least one byte,
and decompressing what it sent gives what it took. The block never checks it. -/
def State.compressorKept (decompress : List Byte → Option (List Byte)) (s : State) : Prop :=
  s.streams.sent ≠ [] ∧ decompress s.streams.sent = some (s.streams.taken.map Prod.fst)

/-- `UnitScaleIdentity(K)` (R144): at equal sizes the kernel answers the sample at the same place. An optional premise;
the block does not require it. -/
def UnitScaleIdentity (K : Kernel) : Prop :=
  ∀ (img : Image) (w h : Byte) (x y : Nat), x < w.toNat → y < h.toNat →
    K (inRangeSamples img w.toNat h.toNat) (w.setWidth 16) (h.setWidth 16) w h x y = sampleAt img x y

/-- A live compressor against the sequencer, for `n` bytes: the sequencer offers, the compressor takes (R247). -/
def liveTurns : Nat → List Turn
  | 0 => []
  | n + 1 => .sequencer :: .pkReady :: liveTurns n

/-- A compressor that delivers the bytes `cs` one a turn, the last with CZ_LAST (R181, R182). -/
def czTurns : List Byte → List Turn
  | [] => []
  | [c] => [.cz true c true false]
  | c :: cs => .cz true c false false :: czTurns cs

end Machine
end Sys2Proof
end

