-- ==== Sys2Proof/Certificates/Slice0/Obligations.lean ====
section
/-! DEFINITION. The statements for the provers, from the numbered rules of spec/. In a statement, a field given by an
existential with no condition on it (PKD and PKL once PKV is 0, and the count of free values) is one the spec
leaves open. -/

open Sys2Proof Sys2Proof.Machine

/-! ## Encoding -/

/-- Decoding an encoded well-formed transaction gives it back, every operand at every value (R80, R82, R83; the
operands hold the ignored bits too, log 6). -/
def Obligations.DecodeGivesBackWhatWasEncoded : Prop :=
  ∀ (i : Instr) (bt : BusWord), i.wf = true → encode i = some bt → decode bt = i

/-- Every transaction word decodes to a well-formed transaction (R82) that encodes to that word. That no bit is lost is
the model's choice, log 6: Instr carries the bits of ADDR[1:0] and WDATA that R61 and R83 only say are ignored. -/
def Obligations.EncodeGivesBackEveryWord : Prop :=
  ∀ bt : BusWord, (decode bt).wf = true ∧ encode (decode bt) = some bt

/-- The decoder takes the matching row of lowest priority of the opcode table, and no second row has it (R82). -/
def Obligations.DecodeTakesTheLowestPriorityRow : Prop :=
  ∀ bt : BusWord, ∃ r ∈ opcodeRows, r.fits bt = true ∧ (decode bt).row = some r.name ∧
    ∀ q ∈ opcodeRows, q.fits bt = true → q ≠ r → r.priority < q.priority

/-- The ten transaction words R93 writes out. -/
def Obligations.CommonTransactionWordsDecode : Prop :=
  decode 0x1000000000001#49 = .wrCmdStart 0 0 ∧
  decode 0x1000000000000#49 = .wrCmdNop 0 0 ∧
  decode 0x0000400000000#49 = .rdStatus 0 0 ∧
  decode 0x1000800000082#49 = .wrTargetW 0 130 ∧
  decode 0x1000C00000001#49 = .wrTargetH 0 1 ∧
  decode 0x100100000007F#49 = .wrConfig 0 127 ∧
  decode 0x100100000017F#49 = .wrConfig 0 0x17F ∧
  decode 0x0001800000000#49 = .rdPackedLen 0 0 ∧
  decode 0x0001C00000000#49 = .rdArtLen 0 0 ∧
  decode 0x0400000000000#49 = .rdArt 0 0 0

/-! ## A step -/

/-- A waiting turn that names an instruction is run by `exec`: a transaction word the instruction it decodes to, and
so for the sequencer, the compressor and the reset (R5, R6, R82, R89). The step takes the turn off the list, the first
one of it, ends the CMP_START pulse of the step before, and adds nothing else. The list of turns and its order are the
model's choice (log 1), and that the pulse ends with the next step is its reading of R10 and R46 (log 12). -/
def Obligations.StepRunsTheWaitingTurn : Prop :=
  ∀ (s : State) (rest : List Turn),
    (∀ bt, s.pending = .bus bt :: rest →
      step s = exec (decode bt) { s with pending := rest, cmpStart := false }) ∧
    (∀ (u : Turn) (i : Instr), s.pending = u :: rest → u.instr = some i →
      step s = exec i { s with pending := rest, cmpStart := false })

/-- A word of the opcode table placed for the next step is decoded and run by it (R51, R80). How a word is placed is the
model's choice (logs 1 and 4), and that the CMP_START pulse of the step before ends there is its reading of R10 and R46
(log 12). -/
def Obligations.PlacedWordRunsNext : Prop :=
  ∀ (s : State) (nbits w : Nat) (i : Instr), decodeTableWord nbits w = some i →
    step (s.withFetchWord nbits w) = exec i { s with cmpStart := false }

/-- With no turn waiting the sequencer moves: the step is PRODUCE, which offers the next byte where it is enabled. Where
it is not, whatever the reason, the block is quiescent: only the CMP_START pulse ends (R165, R217, R247; that PRODUCE
comes in the very next step is the model's choice, log 3, and the pulse's end is log 12). -/
def Obligations.SequencerMovesWhenNobodyElseDoes : Prop :=
  ∀ s : State, s.pending = [] →
    let enabled := s.phase = .pack ∧ s.pkv = false ∧ s.kb.toNat < s.plen.toNat
    step s = exec .produce { s with cmpStart := false } ∧
    (enabled → ∃ d, step s = .next { s with
      cmpStart := false, pkd := d, pkl := decide (s.kb.toNat = s.plen.toNat - 1), pkv := true }) ∧
    (¬ enabled → step s = .next { s with cmpStart := false })

/-- The machine stops for one reason only, a source that moves while BUSY = 1, which R241 and U7 leave out of a model
(log 15). Nothing else stops it: reserved, reserved-bit and unaligned accesses run, where R90 and U9 to U12 tell a model
to refuse them (the model's choice, log 5), and a turn whose step is not enabled passes (log 2). -/
def Obligations.StepStopsOnlyForAMovingSource : Prop :=
  ∀ s : State,
    ((∃ t, step s = .next t) ↔ ¬ ∃ u rest, s.pending = u :: rest ∧ s.movesSource u) ∧
    (∀ r, step s = .refused r → r = .sourceChangedWhileBusy)

/-- A failure on the CZ port comes before any byte offered in the same step, and overflow comes before an early last
byte: either way the conversion fails and the byte is not stored (R206). -/
def Obligations.CompressorErrorComesFirst : Prop :=
  ∀ (s : State) (valid last error : Bool) (d : Byte) (rest : List Turn),
    s.pending = .cz valid d last error :: rest → s.busy = true →
    error = true ∨ (valid = true ∧ s.czn.toNat = 16382) →
      ∃ t, step s = .next t ∧ t.phase = .failed ∧ t.errcode = .compressionError ∧
        t.czn = s.czn ∧ t.art = s.art ∧ t.streams = s.streams

/-! ## Host reads -/

/-- The code of PHASE (R39), written out. -/
def Sys2Proof.Machine.phaseNumber : Phase → Nat
  | .idle => 0
  | .pack => 1
  | .drain => 2
  | .done => 3
  | .failed => 4

/-- The code of ERRCODE (R87), written out. -/
def Sys2Proof.Machine.errNumber : ErrCode → Nat
  | .none => 0
  | .invalidParams => 1
  | .sourceUnavailable => 2
  | .compressionError => 3

/-- The number `V(j)` of R63. -/
def Sys2Proof.Machine.visibleNumber (s : State) (j : Nat) : Nat :=
  if s.phase = .done ∧ j < 2 + s.czn.toNat then (Memory.read s.art j).toNat else 0

/-- The number of the STATUS word, the sum of its fields at their positions (R24, R88). -/
def Sys2Proof.Machine.statusNumber (s : State) : Nat :=
  65536 * s.source.ready.toNat + 256 * phaseNumber s.phase + 16 * errNumber s.errcode + 8 * s.dropped.toNat
    + (if s.phase = .failed then 4 else 0) + (if s.phase = .done then 2 else 0)
    + (if s.phase = .pack ∨ s.phase = .drain then 1 else 0)

/-- The number of the window word whose lane 0 is byte index `i` (R62). -/
def Sys2Proof.Machine.windowNumber (s : State) (i : Nat) : Nat :=
  16777216 * visibleNumber s (i + 3) + 65536 * visibleNumber s (i + 2) + 256 * visibleNumber s (i + 1)
    + visibleNumber s i

/-- Every read returns its register's fields at their bit positions, and changes nothing else (R84). -/
def Obligations.ReadsReturnTheirFields : Prop :=
  ∀ (s : State) (lo : BitVec 2) (wd : HData),
    exec (.rdCmd lo wd) s = .next { s with hrdata := 0 } ∧
    exec (.rdStatus lo wd) s = .next { s with hrdata := BitVec.ofNat 32 (statusNumber s) } ∧
    exec (.rdTargetW lo wd) s = .next { s with hrdata := BitVec.ofNat 32 s.targetW.toNat } ∧
    exec (.rdTargetH lo wd) s = .next { s with hrdata := BitVec.ofNat 32 s.targetH.toNat } ∧
    exec (.rdConfig lo wd) s = .next { s with hrdata := BitVec.ofNat 32 (256 * s.invert.toNat + s.thresh.toNat) } ∧
    exec (.rdSrcDim lo wd) s =
      .next { s with hrdata := BitVec.ofNat 32 (65536 * s.source.height.toNat + s.source.width.toNat) } ∧
    exec (.rdPackedLen lo wd) s = .next { s with hrdata := BitVec.ofNat 32 s.plen.toNat } ∧
    exec (.rdArtLen lo wd) s =
      .next { s with hrdata := BitVec.ofNat 32 (if s.phase = .done then 2 + s.czn.toNat else 0) } ∧
    (∀ idx, exec (.rdArt idx lo wd) s = .next { s with hrdata := BitVec.ofNat 32 (windowNumber s (4 * idx.toNat)) }) ∧
    (∀ w, exec (.rdRsv w lo wd) s = .next { s with hrdata := 0 })

/-- The value of STATUS[10:0] in each phase, without DROPPED (the table of R88). -/
def Sys2Proof.Machine.statusLow : Phase → ErrCode → Nat
  | .idle, _ => 0x000
  | .pack, _ => 0x101
  | .drain, _ => 0x201
  | .done, _ => 0x302
  | .failed, .invalidParams => 0x414
  | .failed, .sourceUnavailable => 0x424
  | .failed, .compressionError => 0x434
  | .failed, .none => 0x404

/-- The STATUS word, field by field and as the table of its values in each phase (R88). -/
def Obligations.StatusWordHasItsFields : Prop :=
  ∀ (s : State) (lo : BitVec 2) (wd : HData), ∃ t, exec (.rdStatus lo wd) s = .next t ∧
    t.hrdata.extractLsb' 17 15 = 0 ∧ t.hrdata.getLsbD 16 = s.source.ready ∧ t.hrdata.extractLsb' 11 5 = 0 ∧
    (t.hrdata.extractLsb' 8 3).toNat = phaseNumber s.phase ∧ t.hrdata.extractLsb' 6 2 = 0 ∧
    (t.hrdata.extractLsb' 4 2).toNat = errNumber s.errcode ∧ t.hrdata.getLsbD 3 = s.dropped ∧
    (t.hrdata.getLsbD 2 = true ↔ s.phase = .failed) ∧ (t.hrdata.getLsbD 1 = true ↔ s.phase = .done) ∧
    (t.hrdata.getLsbD 0 = true ↔ s.phase = .pack ∨ s.phase = .drain) ∧
    (s.Inv → t.hrdata.toNat = statusLow s.phase s.errcode + 8 * s.dropped.toNat + 65536 * s.source.ready.toNat ∧
      ¬ (s.phase = .failed ∧ s.errcode = .none))

/-- A read changes no state and repeats its answer. Of the writes only START reaches beyond its own register, and the
parameter writes are idempotent (R70). -/
def Obligations.AccessesHaveNoSideEffectButStart : Prop :=
  (∀ (i : Instr) (s : State), i.isRead = true → ∃ v, exec i s = .next { s with hrdata := v } ∧
    exec i { s with hrdata := v } = .next { s with hrdata := v }) ∧
  (∀ (i : Instr) (s t : State), i.isTransaction = true → i.isRead = false → exec i s = .next t →
    (∃ lo hi, i = .wrCmdStart lo hi) ∨
    exec i t = .next t ∧
      t = { s with targetW := t.targetW, targetH := t.targetH, thresh := t.thresh, invert := t.invert } ∧
      (t.targetW ≠ s.targetW → ∃ lo wd, i = .wrTargetW lo wd) ∧ (t.targetH ≠ s.targetH → ∃ lo wd, i = .wrTargetH lo wd) ∧
      ((t.thresh ≠ s.thresh ∨ t.invert ≠ s.invert) → ∃ lo wd, i = .wrConfig lo wd))

/-- The window, from the transaction word: a read at an address with ADDR[15:14] = 0b01 answers four bytes, lowest
index in the lowest lane, each the artifact's byte in DONE below index 2 + CZN and 0 otherwise. Outside DONE all of the
window and ART_LEN read 0. A write to the window changes nothing (R62, R63). -/
def Obligations.WindowShowsOnlyTheCommittedArtifact : Prop :=
  ∀ (s : State) (bt : BusWord), bt.extractLsb' 46 2 = 1 →
    (bt.getLsbD 48 = false → ∃ t, exec (decode bt) s = .next t ∧ t = { s with hrdata := t.hrdata } ∧
      (∀ n, n < 4 → t.hrdata.extractLsb' (8 * n) 8 =
        if s.phase = .done ∧ 4 * (bt.extractLsb' 34 12).toNat + n < 2 + s.czn.toNat
        then Memory.read s.art (4 * (bt.extractLsb' 34 12).toNat + n) else 0) ∧
      (s.phase ≠ .done → t.hrdata = 0)) ∧
    (bt.getLsbD 48 = true → exec (decode bt) s = .next s) ∧
    (∀ lo wd, s.phase ≠ .done → exec (.rdArtLen lo wd) s = .next { s with hrdata := 0 })

/-! ## Host writes -/

/-- A parameter write stores the field's bits of WDATA, whatever their value and in every phase, touches nothing else,
and is read back within the field's width (R108, R110, R112). -/
def Obligations.ParameterWritesAreStoredAndReadBack : Prop :=
  ∀ (s : State) (lo lo' : BitVec 2) (wd wd' : HData),
    (∃ t, exec (.wrTargetW lo wd) s = .next t ∧ t = { s with targetW := BitVec.ofNat 16 wd.toNat } ∧
      exec (.rdTargetW lo' wd') t = .next { t with hrdata := BitVec.ofNat 32 (wd.toNat % 65536) }) ∧
    (∃ t, exec (.wrTargetH lo wd) s = .next t ∧ t = { s with targetH := BitVec.ofNat 16 wd.toNat } ∧
      exec (.rdTargetH lo' wd') t = .next { t with hrdata := BitVec.ofNat 32 (wd.toNat % 65536) }) ∧
    (∃ t, exec (.wrConfig lo wd) s = .next t ∧
      t = { s with thresh := BitVec.ofNat 8 wd.toNat, invert := decide (wd.toNat / 256 % 2 = 1) } ∧
      exec (.rdConfig lo' wd') t = .next { t with hrdata := BitVec.ofNat 32 (wd.toNat % 512) })

/-- NOP and the writes to read-only registers and to the window change no state (R100, R106, R114, R116, R118, R120). -/
def Obligations.WritesWithoutEffectChangeNothing : Prop :=
  ∀ (s : State) (lo : BitVec 2) (hi : BitVec 28) (wd : HData) (idx : BitVec 12),
    exec (.wrCmdNop lo hi) s = .next s ∧ exec (.wrStatus lo wd) s = .next s ∧ exec (.wrSrcDim lo wd) s = .next s ∧
    exec (.wrPackedLen lo wd) s = .next s ∧ exec (.wrArtLen lo wd) s = .next s ∧ exec (.wrArt idx lo wd) s = .next s

/-- A reserved command and the reserved addresses have the block's behaviour, no effect and a read of 0. That the
model runs them where the spec tells a model to refuse them is the model's choice (log 5). -/
def Obligations.ReservedTransactionsHaveTheBlocksEffect : Prop :=
  ∀ (s : State) (lo : BitVec 2) (hi : BitVec 28) (wd : HData) (op : BitVec 4) (w : WordAddr),
    exec (.wrCmdRsv op lo hi) s = .next s ∧ exec (.wrRsv w lo wd) s = .next s ∧
    exec (.rdRsv w lo wd) s = .next { s with hrdata := 0 }

/-! ## The host's pseudo-instructions -/

/-- `CFG` writes the three parameter registers and nothing else of the block, for a threshold of 8 bits and an invert
flag of 1 bit, and `NOP` and `START` are the two commands (R92). That no other agent moves between the transactions of
a line is the model's choice (log 23); each is a step, which ends a CMP_START pulse (log 12). -/
def Obligations.PseudoInstructionsWriteTheirRegisters : Prop :=
  ∀ (s : State) (w h t inv : HData), t.toNat < 256 → inv.toNat < 2 →
    issue (HostLine.cfg w h t inv).words s = ([], { s with
      targetW := BitVec.ofNat 16 w.toNat, targetH := BitVec.ofNat 16 h.toNat,
      thresh := BitVec.ofNat 8 t.toNat, invert := decide (inv.toNat = 1), cmpStart := false }) ∧
    issue HostLine.nop.words s = ([], { s with cmpStart := false }) ∧
    ∀ u, exec (.wrCmdStart 0 0) { s with cmpStart := false } = .next u → issue HostLine.start.words s = ([], u)

/-- `READART n` in DONE fills the host's buffer with the first `n` bytes the window shows, in order, and changes nothing
of the block (R62, R92). That no other agent moves between its reads, so no START and no reset, is the model's choice
(log 23); each read is a step, which ends a CMP_START pulse (log 12). -/
def Obligations.ReadArtReadsTheArtifact : Prop :=
  ∀ (s : State) (n : Nat), s.phase = .done → n ≤ 16384 →
    artBytes n (issue (HostLine.readArt n).words s).1 =
      (List.range n).map (fun j => if j < 2 + s.czn.toNat then Memory.read s.art j else 0) ∧
    (∃ v, (issue (HostLine.readArt n).words s).2 = { s with hrdata := v, cmpStart := s.cmpStart && decide (n = 0) })

/-- `WAITIDLE` ends with its first read when BUSY = 0, and whenever it ends BUSY is 0 (R92, R242; the bound on its reads
and the one turn between two of them are the model's choice, log 23). Each read is a step, which ends a CMP_START pulse
(log 12). -/
def Obligations.WaitIdleEndsIdle : Prop :=
  ∀ (s : State) (rounds : Nat),
    (s.busy = false → ∃ v, waitIdle (rounds + 1) s = some { s with hrdata := v, cmpStart := false }) ∧
    (∀ t, waitIdle rounds s = some t → t.busy = false)

/-! ## START and the errors -/

/-- A START while BUSY = 1 sets DROPPED and nothing else. A START that is accepted clears it. STATUS[3] shows it (R28). -/
def Obligations.StartDroppedIsSetWhileBusyAndClearedByAcceptance : Prop :=
  ∀ (s : State) (lo lo' : BitVec 2) (hi : BitVec 28) (wd : HData),
    (s.busy = true → exec (.wrCmdStart lo hi) s = .next { s with dropped := true }) ∧
    (s.busy = false → ∃ t, exec (.wrCmdStart lo hi) s = .next t ∧ t.dropped = false) ∧
    (∃ t, exec (.rdStatus lo' wd) s = .next t ∧ t.hrdata.getLsbD 3 = s.dropped)

/-- The target size R103 calls BAD. -/
abbrev Sys2Proof.Machine.badSize (s : State) : Prop :=
  s.targetW.toNat = 0 ∨ s.targetH.toNat = 0 ∨ 255 < s.targetW.toNat ∨ 255 < s.targetH.toNat

/-- The source R201 calls unavailable. -/
abbrev Sys2Proof.Machine.badSource (s : State) : Prop := s.source.ready = false ∨ s.source.width.toNat = 0 ∨ s.source.height.toNat = 0

/-- An accepted START with a target dimension of 0 or above 255 fails with INVALID_PARAMS in its own step, whatever
the source, sets PLEN to 0 and leaves all else but PKD and PKL (R101, R103, R200, R205). -/
def Obligations.StartRejectsABadSizeFirst : Prop :=
  ∀ (s : State) (lo : BitVec 2) (hi : BitVec 28), s.busy = false → badSize s →
    ∃ d l n, exec (.wrCmdStart lo hi) s = .next { s with
      dropped := false, errcode := .invalidParams, phase := .failed, plen := 0,
      pkv := false, pkd := d, pkl := l, freeCount := n }

/-- An accepted START with a good size and a source that is not ready or has a zero dimension fails with
SOURCE_UNAVAILABLE in its own step, sets PLEN to 0 and leaves all else but PKD and PKL (R101, R201, R205). -/
def Obligations.StartRejectsAnUnavailableSource : Prop :=
  ∀ (s : State) (lo : BitVec 2) (hi : BitVec 28), s.busy = false → ¬ badSize s → badSource s →
    ∃ d l n, exec (.wrCmdStart lo hi) s = .next { s with
      dropped := false, errcode := .sourceUnavailable, phase := .failed, plen := 0,
      pkv := false, pkd := d, pkl := l, freeCount := n }

/-- An accepted START that passes both checks begins a conversion: it latches the parameters and the source's size,
sets PLEN to ceil(TW * TH / 8), clears KB, CZN and PKV, writes the header to ART[0] and ART[1] and no other byte,
pulses CMP_START, which makes the compressor begin a new stream, and enters PACK (R36, R101, R160, R180). -/
def Obligations.StartBeginsAConversion : Prop :=
  ∀ (s : State) (lo : BitVec 2) (hi : BitVec 28), s.busy = false → ¬ badSize s → ¬ badSource s → Memory.wf s.art →
    ∃ d l n k, exec (.wrCmdStart lo hi) s = .next { s with
      dropped := false, errcode := .none, phase := .pack,
      latched := { lw := BitVec.ofNat 8 s.targetW.toNat, lh := BitVec.ofNat 8 s.targetH.toNat, lt := s.thresh,
                   linv := s.invert, lsw := s.source.width, lsh := s.source.height },
      plen := BitVec.ofNat 14 n, kb := 0, czn := 0, pkv := false, pkd := d, pkl := l, cmpStart := true,
      art := Memory.write (Memory.write s.art 0 (BitVec.ofNat 8 s.targetW.toNat)) 1 (BitVec.ofNat 8 s.targetH.toNat),
      streams := { taken := [], sent := [] }, freeCount := k } ∧
      8 * n < s.targetW.toNat * s.targetH.toNat + 8 ∧ s.targetW.toNat * s.targetH.toNat ≤ 8 * n ∧ n ≤ 8129

/-- The header a START that begins a conversion writes: ART[0] is LW and ART[1] is LH, which are TW and TH, unchanged by
the truncation mod 256, and every other byte of ART reads as before. A size of 0 or above 255 never reaches the header:
START fails and writes none (R180). -/
def Obligations.HeaderIsTheTargetSize : Prop :=
  ∀ (s : State) (lo : BitVec 2) (hi : BitVec 28), s.busy = false → Memory.wf s.art →
    (badSize s → ∃ t, exec (.wrCmdStart lo hi) s = .next t ∧ t.errcode = .invalidParams ∧ t.phase = .failed ∧
      t.art = s.art) ∧
    (¬ badSize s → ¬ badSource s → ∃ t, exec (.wrCmdStart lo hi) s = .next t ∧
      Memory.read t.art 0 = t.latched.lw ∧ Memory.read t.art 1 = t.latched.lh ∧
      (Memory.read t.art 0).toNat = s.targetW.toNat % 256 ∧ (Memory.read t.art 1).toNat = s.targetH.toNat % 256 ∧
      (Memory.read t.art 0).toNat = s.targetW.toNat ∧ (Memory.read t.art 1).toNat = s.targetH.toNat ∧
      ∀ a, a ≠ 0 → a ≠ 1 → Memory.read t.art a = Memory.read s.art a)

/-- `Fail(code)` withdraws the offer, sets ERRCODE, enters FAILED, and changes nothing else but PKD and PKL, which mean
nothing while PKV = 0. The window and ART_LEN then read 0, bytes and errors of the compressor are discarded, and the
next START that begins a conversion pulses CMP_START. It is the only way a conversion fails: it is applied to the state
before the step, to that state after START has cleared DROPPED, ERRCODE and PLEN, or after a last byte has been
stored (R203). -/
def Obligations.FailIsTheOnlyWayToFail : Prop :=
  (∀ (s : State) (code : ErrCode),
    (∃ d l n, s.fail code =
      { s with pkv := false, errcode := code, phase := .failed, pkd := d, pkl := l, freeCount := n }) ∧
    (s.fail code).artLen = 0 ∧ (∀ j, (s.fail code).visibleByte j = 0) ∧
    (∀ d last, exec (.czByte d last) (s.fail code) = .next (s.fail code)) ∧
    exec .czFail (s.fail code) = .next (s.fail code) ∧
    (∀ lo hi t, exec (.wrCmdStart lo hi) (s.fail code) = .next t → t.phase = .pack → t.cmpStart = true)) ∧
  (∀ (i : Instr) (s t : State), exec i s = .next t → t.phase = .failed →
    s.phase = .failed ∧ t.errcode = s.errcode ∨ ∃ (u : State) (code : ErrCode), code ≠ .none ∧ t = u.fail code ∧
      (u = s ∨ u = { s with dropped := false, errcode := .none, plen := 0 } ∨
        ∃ d, u = { s with
          art := Memory.write s.art (2 + s.czn.toNat) d, czn := s.czn + 1
          streams := { s.streams with sent := s.streams.sent ++ [d] } }))

/-- The causes of the three errors, complete: an instruction leaves ERRCODE at a code exactly when the code's
cause happened in this step, or it stood before and neither an accepted START nor a reset came (R200, R201, R202). -/
def Obligations.ErrorCausesAreComplete : Prop :=
  ∀ (i : Instr) (s t : State), s.Inv → exec i s = .next t →
    let start := (∃ lo hi, i = .wrCmdStart lo hi) ∧ s.busy = false
    (t.errcode = .invalidParams ↔ (start ∧ badSize s) ∨ (s.errcode = .invalidParams ∧ ¬ start ∧ i ≠ .reset)) ∧
    (t.errcode = .sourceUnavailable ↔
      (start ∧ ¬ badSize s ∧ badSource s) ∨ (s.errcode = .sourceUnavailable ∧ ¬ start ∧ i ≠ .reset)) ∧
    (t.errcode = .compressionError ↔
      (s.busy = true ∧ (i = .czFail ∨ ∃ d last, i = .czByte d last ∧
        (s.czn.toNat = 16382 ∨ last = true ∧ s.phase = .pack))) ∨
      (s.errcode = .compressionError ∧ ¬ start ∧ i ≠ .reset))

/-- A START that fails sets PLEN to 0 and keeps KB, so KB exceeds PLEN after it. R50 clause 2 (KB ≤ PLEN in every
reachable state) does not follow from R42, R48 and R101; the model follows those rules (log 19). -/
def Obligations.FailedStartKeepsKbAbovePlen : Prop :=
  ∀ (s : State) (lo : BitVec 2) (hi : BitVec 28), s.Inv → s.phase = .done → badSize s →
    ∃ t, exec (.wrCmdStart lo hi) s = .next t ∧ t.kb = s.kb ∧ t.plen.toNat < t.kb.toNat

/-! ## The binarizer and the packer -/

/-- The luminance is 299 R + 587 G + 114 B, between 0 and 255000, 0 for black alone and 255000 for white alone, and
1000 times the level of a grey (R145). -/
def Obligations.LuminanceIsTheExactWeightedSum : Prop :=
  ∀ p : Rgba, luma1000 p = 299 * p.r.toNat + 587 * p.g.toNat + 114 * p.b.toNat ∧ luma1000 p ≤ 255000 ∧
    (luma1000 p = 0 ↔ p.r = 0 ∧ p.g = 0 ∧ p.b = 0) ∧
    (luma1000 p = 255000 ↔ p.r = 255 ∧ p.g = 255 ∧ p.b = 255) ∧
    (p.r = p.g → p.g = p.b → luma1000 p = 1000 * p.r.toNat)

/-- A pixel is on when its luminance is strictly above the threshold, XOR invert; at threshold 255 the invert flag alone
decides, at threshold 0 without invert all but black is on, and an equal luminance is not greater (R147). -/
def Obligations.ClassificationIsStrictThenInverted : Prop :=
  ∀ (p : Rgba) (lt : Byte) (linv : Bool),
    (classify p lt linv = true ↔ (1000 * lt.toNat < luma1000 p ↔ linv = false)) ∧
    classify p 255 false = false ∧ classify p 255 true = true ∧
    (classify p 0 false = true ↔ ¬ (p.r = 0 ∧ p.g = 0 ∧ p.b = 0)) ∧
    (luma1000 p = 1000 * lt.toNat → classify p lt false = false ∧ classify p lt true = true)

/-- Invert flips every classification (R149), a grey is on when its level is above the threshold, XOR invert (R150), and
alpha never matters (R146). -/
def Obligations.ClassificationDualityGreyAndAlpha : Prop :=
  ∀ (p : Rgba) (lt : Byte) (linv : Bool) (alpha : Byte),
    classify p lt true ≠ classify p lt false ∧
    (p.r = p.g → p.g = p.b → classify p lt linv = Bool.xor (decide (lt.toNat < p.r.toNat)) linv) ∧
    classify { p with a := alpha } lt linv = classify p lt linv

/-- Every kernel of the block keeps a uniform source (law 2) and sees only samples in range (law 3), and a kernel
that keeps uniform sources is used as it is, so none that meets the laws is left out (R143). -/
def Obligations.KernelMeetsItsLaws : Prop :=
  (∀ (K : Kernel) (l : Latched) (img : Image) (c : Rgba) (x y : Nat), l.lsw ≠ 0 → l.lsh ≠ 0 →
    (∀ sx sy, sx < l.lsw.toNat → sy < l.lsh.toNat → sampleAt img sx sy = c) → resample (admissible K) l img x y = c) ∧
  (∀ (K : Kernel) (l : Latched) (img img' : Image) (x y : Nat),
    (∀ sx sy, sx < l.lsw.toNat → sy < l.lsh.toNat → sampleAt img sx sy = sampleAt img' sx sy) →
    resample (admissible K) l img x y = resample (admissible K) l img' x y) ∧
  (∀ (K : Kernel), (∀ samples c lsw lsh lw lh x y, samples ≠ [] → (∀ d ∈ samples, d = c) →
      K samples lsw lsh lw lh x y = c) → admissible K = K)

/-- A kernel with the property UnitScaleIdentity of R144 keeps it in the block (R143 law 2 does not contradict it). -/
def Obligations.UnitScaleIdentitySurvivesTheUniformLaw : Prop :=
  ∀ K : Kernel, UnitScaleIdentity K → UnitScaleIdentity (admissible K)

/-- The packed length is ceil(LW * LH / 8), between 1 and 8129 (R160). -/
def Obligations.PackedLengthIsTheRoundedUpEighth : Prop :=
  ∀ lw lh : Byte, 1 ≤ lw.toNat → 1 ≤ lh.toNat →
    8 * packedLength lw lh < lw.toNat * lh.toNat + 8 ∧ lw.toNat * lh.toNat ≤ 8 * packedLength lw lh ∧
    1 ≤ packedLength lw lh ∧ packedLength lw lh ≤ 8129

/-- Bit `7-p` of packed byte `k` is pixel `8k+p` of the classified image in scan order, and 0 past the last pixel (R161). -/
def Obligations.PackedByteIsMostSignificantFirst : Prop :=
  ∀ (K : Kernel) (l : Latched) (img : Image) (k p : Nat), p < 8 →
    (packedByte K l img k).getLsbD (7 - p) =
      (decide (8 * k + p < l.lw.toNat * l.lh.toNat) && onBit K l img (8 * k + p)) ∧
    (packedByte K l img k).getLsbD (7 - p) = (classifiedBits K l img)[8 * k + p]?.getD false

/-- The last byte holds `r` pixels, 1 ≤ r ≤ 8, and its bits [7-r:0] are 0 (R162). -/
def Obligations.LastByteIsPaddedInTheLowBits : Prop :=
  ∀ (K : Kernel) (l : Latched) (img : Image), 1 ≤ l.lw.toNat → 1 ≤ l.lh.toNat →
    ∃ r, 1 ≤ r ∧ r ≤ 8 ∧ 8 * (packedLength l.lw l.lh - 1) + r = l.lw.toNat * l.lh.toNat ∧
      ∀ j, j < 8 - r → (packedByte K l img (packedLength l.lw l.lh - 1)).getLsbD j = false

/-- PRODUCE, where it is enabled, offers packed byte KB: bit `7-p` is the classification of the resampled pixel
at column `(8 KB + p) mod LW`, row `(8 KB + p) div LW`, and PKL marks the last byte. Nothing else changes, ART
included (R165, with R140, R147 and R161). -/
def Obligations.ProduceOffersTheNextPackedByte : Prop :=
  ∀ s : State, s.phase = .pack → s.pkv = false → s.kb.toNat < s.plen.toNat →
    ∃ d, exec .produce s = .next { s with
        pkd := d, pkl := decide (s.kb.toNat = s.plen.toNat - 1), pkv := true } ∧
      ∀ p, p < 8 → d.getLsbD (7 - p) =
        (decide (8 * s.kb.toNat + p < s.latched.lw.toNat * s.latched.lh.toNat) &&
          classify (resample blockKernel s.latched s.source.image
              ((8 * s.kb.toNat + p) % s.latched.lw.toNat) ((8 * s.kb.toNat + p) / s.latched.lw.toNat))
            s.latched.lt s.latched.linv)

/-- PRODUCE on a source of one colour, whatever the kernel: every pixel that exists has that colour's classification
(R143 law 2, R165; the document's Scenarios A to D). -/
def Obligations.UniformSourcePacksUniformly : Prop :=
  ∀ (s : State) (c : Rgba), s.Inv → s.phase = .pack → s.pkv = false →
    (∀ sx sy, sx < s.latched.lsw.toNat → sy < s.latched.lsh.toNat → sampleAt s.source.image sx sy = c) →
    ∃ t, exec .produce s = .next t ∧ t.pkv = true ∧
      ∀ p, p < 8 → t.pkd.getLsbD (7 - p) =
        (decide (8 * s.kb.toNat + p < s.latched.lw.toNat * s.latched.lh.toNat) &&
          classify c s.latched.lt s.latched.linv)

/-- PK_XFER takes the byte on offer: the compressor has it with its PK_LAST, PKV is 0, KB is one more, and the phase
is DRAIN after the last byte. Nothing else changes but PKD and PKL, which mean nothing while PKV = 0 (R166). -/
def Obligations.TransferTakesTheOffer : Prop :=
  ∀ s : State, s.pkv = true →
    ∃ d l n, exec .pkXfer s = .next { s with
      streams := { s.streams with taken := s.streams.taken ++ [(s.pkd, s.pkl)] },
      pkv := false, pkd := d, pkl := l, freeCount := n,
      kb := s.kb + 1, phase := if s.pkl then .drain else s.phase }

/-- While PKV = 1 the offer stands, PKD and PKL unchanged, until PK_XFER, a failure or a reset, and only PK_XFER
increments KB (R167; a reset, R230, ends an offer too). -/
def Obligations.OfferStandsUntilTakenOrWithdrawn : Prop :=
  ∀ (i : Instr) (s t : State), s.Inv → exec i s = .next t →
    (s.pkv = true → i ≠ .pkXfer → i ≠ .reset → t.phase ≠ .failed →
      t.pkv = true ∧ t.pkd = s.pkd ∧ t.pkl = s.pkl) ∧
    (s.pkv = true → t.phase = .failed → t.pkv = false) ∧
    (t.kb.toNat = s.kb.toNat + 1 → i = .pkXfer) ∧
    (i ≠ .pkXfer → t.kb = s.kb ∨ t.kb = 0)

/-- A turn whose step is not enabled changes nothing: PRODUCE outside its condition, PK_READY with nothing on offer
(R165, R166; that such a turn passes is the model's reading, log 2). -/
def Obligations.DisabledTurnsPass : Prop :=
  ∀ s : State,
    (¬ (s.phase = .pack ∧ s.pkv = false ∧ s.kb.toNat < s.plen.toNat) → exec .produce s = .next s) ∧
    (s.pkv = false → exec .pkXfer s = .next s)

/-- Reading back: pixel `i` is bit `7 - (i mod 8)` of byte `i div 8` of the packed bitmap, and the pixel count is the
product of the header bytes (R188). -/
def Obligations.PackedBitmapReadsBack : Prop :=
  ∀ (s : State) (i : Nat), s.Inv → s.phase = .pack ∨ s.phase = .drain ∨ s.phase = .done →
    i < (Memory.read s.art 0).toNat * (Memory.read s.art 1).toNat →
    ∃ b, (packedBitmap blockKernel s.latched s.source.image)[i / 8]? = some b ∧
      b.getLsbD (7 - i % 8) = onBit blockKernel s.latched s.source.image i

/-! ## The prepender -/

/-- CZ_BYTE by cases: discarded outside PACK and DRAIN; at CZN = 16382 an overflow failure that stores nothing; else
the byte is stored at ART[2 + CZN] and no other byte changes, and a last byte fails the conversion in PACK and commits
it in DRAIN. What is not named is unchanged (R182). -/
def Obligations.CompressedByteIsStoredOrFails : Prop :=
  ∀ (s : State) (d : Byte) (last : Bool), s.czn.toNat ≤ 16382 → Memory.wf s.art →
    (s.busy = false → exec (.czByte d last) s = .next s) ∧
    (s.busy = true → s.czn.toNat = 16382 → ∃ pd pl n, exec (.czByte d last) s = .next { s with
      pkv := false, pkd := pd, pkl := pl, freeCount := n, errcode := .compressionError, phase := .failed }) ∧
    (s.busy = true → s.czn.toNat < 16382 → ∃ m, m = Memory.write s.art (2 + s.czn.toNat) d ∧
      Memory.read m (2 + s.czn.toNat) = d ∧ (∀ a, a ≠ 2 + s.czn.toNat → Memory.read m a = Memory.read s.art a) ∧
      (last = false → exec (.czByte d last) s = .next { s with
        art := m, czn := BitVec.ofNat 14 (s.czn.toNat + 1), streams := { s.streams with sent := s.streams.sent ++ [d] } }) ∧
      (last = true → s.phase = .pack → ∃ pd pl n, exec (.czByte d last) s = .next { s with
        art := m, czn := BitVec.ofNat 14 (s.czn.toNat + 1), streams := { s.streams with sent := s.streams.sent ++ [d] },
        pkv := false, pkd := pd, pkl := pl, freeCount := n, errcode := .compressionError, phase := .failed }) ∧
      (last = true → s.phase = .drain → exec (.czByte d last) s = .next { s with
        art := m, czn := BitVec.ofNat 14 (s.czn.toNat + 1), streams := { s.streams with sent := s.streams.sent ++ [d] },
        phase := .done }))

/-- CZ_FAIL fails a running conversion with COMPRESSION_ERROR, STATUS[10:0] then reads 0x434 without DROPPED, and it
changes nothing in IDLE, DONE and FAILED (R184). -/
def Obligations.CompressorFailureEndsTheConversion : Prop :=
  ∀ (s : State) (lo : BitVec 2) (wd : HData),
    (s.busy = true → ∃ d l n t, exec .czFail s = .next t ∧ t = { s with
      pkv := false, pkd := d, pkl := l, freeCount := n, errcode := .compressionError, phase := .failed } ∧
      ∃ u, exec (.rdStatus lo wd) t = .next u ∧ (u.hrdata.extractLsb' 0 11).toNat = 0x434 + 8 * s.dropped.toNat) ∧
    (s.busy = false → exec .czFail s = .next s)

/-- A commit happens in DRAIN only, after a stored byte, and makes the artifact visible at once: ART_LEN is then at
least 3 and shows 2 + CZN (R183). -/
def Obligations.CommitHappensInDrainAfterAByte : Prop :=
  ∀ (i : Instr) (s t : State), s.Inv → exec i s = .next t → s.phase ≠ .done → t.phase = .done →
    s.phase = .drain ∧ (∃ d, i = .czByte d true ∧ Memory.read t.art (1 + t.czn.toNat) = d) ∧
    t.czn.toNat = s.czn.toNat + 1 ∧ t.artLen.toNat = 2 + t.czn.toNat ∧ 3 ≤ t.artLen.toNat ∧
    ∀ j, j < t.artLen.toNat → t.visibleByte j = Memory.read t.art j

/-- What a commit delivers: `[LW, LH]` and the bytes the compressor sent, and if the compressor kept its contract
for the format `decompress` inverts, the payload decompresses to the packed bitmap, ceil(LW * LH / 8) bytes
(R185, R187, with R168). -/
def Obligations.CommittedArtifactDecompressesToTheBitmap : Prop :=
  ∀ (s t : State) (d : Byte) (decompress : List Byte → Option (List Byte)),
    s.Inv → s.StreamInv → s.phase = .drain → exec (.czByte d true) s = .next t → t.phase = .done →
    t.compressorKept decompress →
      t.payload = t.streams.sent ∧ Memory.read t.art 0 = t.latched.lw ∧ Memory.read t.art 1 = t.latched.lh ∧
      decompress t.payload = some (packedBitmap blockKernel t.latched t.source.image) ∧
      (packedBitmap blockKernel t.latched t.source.image).length = (t.latched.lw.toNat * t.latched.lh.toNat + 7) / 8

/-! ## Reset -/

/-- RESET gives every register of the block its reset value in every phase, does not pulse CMP_START, and leaves
PK_VALID 0 and CZ_READY 1. PKD, PKL and ART are unspecified. That
what belongs to the other agents stays is the model's reading (R230, log 8). -/
def Obligations.ResetGivesEveryRegisterItsValue : Prop :=
  ∀ s : State, ∃ d l n m, exec .reset s = .next { s with
    targetW := 0, targetH := 0, thresh := 0, invert := false,
    latched := { lw := 0, lh := 0, lt := 0, linv := false, lsw := 0, lsh := 0 },
    phase := .idle, errcode := .none, dropped := false, kb := 0, plen := 0, czn := 0, pkv := false,
    pkd := d, pkl := l, freeCount := n, art := m, cmpStart := false } ∧ Memory.wf m ∧
    ∀ t, exec .reset s = .next t → t.pkOffer = none ∧ t.czReady = true

/-- After a reset STATUS reads 0x0000_0000 or, with SRC_READY = 1, 0x0001_0000, and PACKED_LEN, ART_LEN and every
window word read 0 (R232). -/
def Obligations.ReadsAfterReset : Prop :=
  ∀ (s t : State) (lo : BitVec 2) (wd : HData), t = State.reset ∨ exec .reset s = .next t →
    exec (.rdStatus lo wd) t = .next { t with hrdata := if t.source.ready then 0x00010000 else 0 } ∧
    exec (.rdPackedLen lo wd) t = .next { t with hrdata := 0 } ∧
    exec (.rdArtLen lo wd) t = .next { t with hrdata := 0 } ∧
    ∀ idx, exec (.rdArt idx lo wd) t = .next { t with hrdata := 0 }

/-! ## Rules of the whole machine -/

/-- An instruction that moves a state to the phase, error code and DROPPED given. -/
def Sys2Proof.Machine.movesTo (i : Instr) (s : State) (p : Phase) (e : ErrCode) (dropped : Bool) : Prop :=
  ∃ t, exec i s = .next t ∧ t.phase = p ∧ t.errcode = e ∧ t.dropped = dropped

/-- The complete phase transition table, row by row, and no other transition: every other instruction, and these under
every other condition, keep the phase, the error code and DROPPED, and so does a turn of the source (R207). -/
def Obligations.PhaseTransitionTableIsComplete : Prop :=
  ∀ s : State, s.Inv →
    (∀ lo hi, (s.busy = true → movesTo (.wrCmdStart lo hi) s s.phase s.errcode true) ∧
      (s.busy = false → badSize s → movesTo (.wrCmdStart lo hi) s .failed .invalidParams false) ∧
      (s.busy = false → ¬ badSize s → badSource s → movesTo (.wrCmdStart lo hi) s .failed .sourceUnavailable false) ∧
      (s.busy = false → ¬ badSize s → ¬ badSource s → movesTo (.wrCmdStart lo hi) s .pack .none false)) ∧
    ((s.phase = .pack → s.pkv = true → s.pkl = true → movesTo .pkXfer s .drain s.errcode s.dropped) ∧
      (¬ (s.phase = .pack ∧ s.pkv = true ∧ s.pkl = true) → movesTo .pkXfer s s.phase s.errcode s.dropped)) ∧
    (∀ d last,
      (s.busy = true → s.czn.toNat = 16382 → movesTo (.czByte d last) s .failed .compressionError s.dropped) ∧
      (s.czn.toNat ≠ 16382 → last = true →
        (s.phase = .pack → movesTo (.czByte d last) s .failed .compressionError s.dropped) ∧
        (s.phase = .drain → movesTo (.czByte d last) s .done s.errcode s.dropped)) ∧
      (s.busy = false ∨ (s.czn.toNat ≠ 16382 ∧ last = false) →
        movesTo (.czByte d last) s s.phase s.errcode s.dropped)) ∧
    ((s.busy = true → movesTo .czFail s .failed .compressionError s.dropped) ∧
      (s.busy = false → movesTo .czFail s s.phase s.errcode s.dropped)) ∧
    movesTo .reset s .idle .none false ∧
    (∀ i, (∀ lo hi, i ≠ .wrCmdStart lo hi) → i ≠ .pkXfer → (∀ d last, i ≠ .czByte d last) → i ≠ .czFail → i ≠ .reset →
      movesTo i s s.phase s.errcode s.dropped) ∧
    (∀ src t, s.present src = .next t → t.phase = s.phase ∧ t.errcode = s.errcode ∧ t.dropped = s.dropped)

/-- Every register of the block, the word last read and both streams have their writers and no others, for every
instruction: the frame of the whole machine (R32-R34, R36, R39-R44, R47, R48, R166, R182). The model's choices here: that
a RESET leaves the last read word, the streams, the source and the waiting turns (log 8), that only a read changes the
word (log 11), that the streams are recorded and who writes the record (log 20), that the source and the list of turns
are fields no instruction writes (logs 1, 14). -/
def Obligations.EachRegisterHasItsOwnWriters : Prop :=
  ∀ (i : Instr) (s t : State), exec i s = .next t →
    let start := ∃ lo hi, i = .wrCmdStart lo hi
    let byte := ∃ d last, i = .czByte d last
    (t.targetW ≠ s.targetW → i = .reset ∨ ∃ lo wd, i = .wrTargetW lo wd) ∧
    (t.targetH ≠ s.targetH → i = .reset ∨ ∃ lo wd, i = .wrTargetH lo wd) ∧
    (t.thresh ≠ s.thresh ∨ t.invert ≠ s.invert → i = .reset ∨ ∃ lo wd, i = .wrConfig lo wd) ∧
    (t.latched ≠ s.latched → i = .reset ∨ start) ∧
    (t.phase ≠ s.phase → i = .reset ∨ start ∨ byte ∨ i = .czFail ∨ i = .pkXfer) ∧
    (t.plen ≠ s.plen → i = .reset ∨ start) ∧
    (t.kb ≠ s.kb → i = .reset ∨ start ∨ i = .pkXfer) ∧
    (t.czn ≠ s.czn → i = .reset ∨ start ∨ byte) ∧
    (∀ a, Memory.read t.art a ≠ Memory.read s.art a →
      i = .reset ∨ (start ∧ (a = 0 ∨ a = 1)) ∨ (byte ∧ a = 2 + s.czn.toNat)) ∧
    (t.dropped ≠ s.dropped → i = .reset ∨ start) ∧
    (t.errcode ≠ s.errcode → i = .reset ∨ start ∨ byte ∨ i = .czFail) ∧
    (t.pkv ≠ s.pkv ∨ t.pkd ≠ s.pkd ∨ t.pkl ≠ s.pkl →
      i = .reset ∨ start ∨ byte ∨ i = .czFail ∨ i = .produce ∨ i = .pkXfer) ∧
    (t.cmpStart ≠ s.cmpStart → i = .reset ∨ start) ∧
    (t.hrdata ≠ s.hrdata → i.isRead = true) ∧
    (t.streams.taken ≠ s.streams.taken → start ∨ i = .pkXfer) ∧
    (t.streams.sent ≠ s.streams.sent → start ∨ byte) ∧
    t.source = s.source ∧ t.pending = s.pending

/-- The latched parameters: a START that begins a conversion writes them, from the registers and the source's size, a
reset clears them, and nothing else writes them, a START that fails or is dropped included. No step of a running
conversion depends on the host-visible registers: with any other values in them it does the same (R36). -/
def Obligations.LatchedParametersAreImmutable : Prop :=
  (∀ (s : State) (lo : BitVec 2) (hi : BitVec 28), s.busy = false → ¬ badSize s → ¬ badSource s →
    ∃ t, exec (.wrCmdStart lo hi) s = .next t ∧ t.phase = .pack ∧
      t.latched.lw.toNat = s.targetW.toNat ∧ t.latched.lh.toNat = s.targetH.toNat ∧ t.latched.lt = s.thresh ∧
      t.latched.linv = s.invert ∧ t.latched.lsw = s.source.width ∧ t.latched.lsh = s.source.height) ∧
  (∀ (s t : State), exec .reset s = .next t →
    t.latched = { lw := 0, lh := 0, lt := 0, linv := false, lsw := 0, lsh := 0 }) ∧
  (∀ (i : Instr) (s t : State), exec i s = .next t → t.latched ≠ s.latched →
    i = .reset ∨ (∃ lo hi, i = .wrCmdStart lo hi) ∧ s.busy = false ∧ t.phase = .pack) ∧
  (∀ (i : Instr) (s t : State) (tw th : BitVec 16) (thr : Byte) (inv : Bool),
    i.isTransaction = false → i ≠ .reset → exec i s = .next t →
    exec i { s with targetW := tw, targetH := th, thresh := thr, invert := inv } =
      .next { t with targetW := tw, targetH := th, thresh := thr, invert := inv })

/-- Once DONE = 1 has been seen, the artifact stays until a START or a reset: every other instruction keeps the phase, the
length and every byte. Once ERR = 1 has been seen, so do FAILED and the error code (R74). -/
def Obligations.CommittedArtifactStaysUntilStartOrReset : Prop :=
  ∀ (i : Instr) (s : State), s.Inv → i ≠ .reset → (∀ lo hi, i ≠ .wrCmdStart lo hi) →
    (s.phase = .done →
      ∃ t, exec i s = .next t ∧ t.phase = .done ∧ t.artLen = s.artLen ∧ ∀ j, t.visibleByte j = s.visibleByte j) ∧
    (s.phase = .failed → ∃ t, exec i s = .next t ∧ t.phase = .failed ∧ t.errcode = s.errcode)

/-- Two artifact buffers in canonical form with the same bytes are the same data (the model's memory, log 9). -/
def Obligations.EqualBuffersAreEqualData : Prop :=
  ∀ m m' : Memory, Memory.wf m → Memory.wf m' → (∀ a, Memory.read m a = Memory.read m' a) → m = m'

/-- The invariants hold at reset (R50, clause 2 in every state but those of a START that fails, log 19). -/
def Obligations.InvariantsHoldAtReset : Prop := State.reset.Inv ∧ State.reset.StreamInv

/-- Every step of every agent keeps the invariants of R50, clause 2 in every state but those of a START that fails: there
PLEN is 0 and KB is at most 8129 (log 19). -/
def Obligations.EveryStepKeepsTheInvariants : Prop :=
  ∀ s t : State, s.Inv → step s = .next t → t.Inv

/-- Every step keeps the streams right: in a running conversion the compressor has taken exactly the first KB bytes of
the packed bitmap, in order, with PK_LAST on the last of all only, and ART holds after the header exactly the bytes
it sent (R168, R185). -/
def Obligations.EveryStepKeepsTheStreams : Prop :=
  ∀ s t : State, s.Inv → s.StreamInv → step s = .next t → t.StreamInv

/-- A conversion just begun, under one schedule, the model's list of turns (log 1): the sequencer and a compressor that
takes each byte move in alternation, and no other agent. PLEN offers and takes later the phase is DRAIN and the
compressor has received exactly the packed bitmap, PK_LAST on its last byte only (R168, R247). -/
def Obligations.LiveCompressorReceivesThePackedBitmap : Prop :=
  ∀ (s : State) (rest : List Turn), s.Inv → s.StreamInv → s.phase = .pack → s.kb = 0 → s.pkv = false →
    s.pending = liveTurns s.plen.toNat ++ rest →
    ∃ t, Host.Core.run core (2 * s.plen.toNat) s = .next t ∧ t.phase = .drain ∧ t.kb = s.plen ∧ t.pkv = false ∧
      t.streams.taken = packedStream blockKernel s.latched s.source.image ∧
      t.latched = s.latched ∧ t.plen = s.plen ∧ t.czn = s.czn ∧ t.art = s.art ∧ t.errcode = s.errcode ∧ t.pending = rest

/-- A compressor that then delivers its bytes, one a turn with no other agent between (the schedule is the model's list of
turns, log 1), ends the conversion, whatever it sent during PACK: after the last one the phase is DONE, ART_LEN counts
the header and every byte, and the window shows `[LW, LH]`, the bytes stored before, and the new ones in order (R182,
R183, R185). -/
def Obligations.DeliveredStreamCommitsTheArtifact : Prop :=
  ∀ (s : State) (cs : List Byte) (rest : List Turn), s.Inv → s.phase = .drain → cs ≠ [] →
    s.czn.toNat + cs.length ≤ 16382 → s.pending = czTurns cs ++ rest →
    ∃ t, Host.Core.run core cs.length s = .next t ∧ t.phase = .done ∧ t.errcode = .none ∧
      t.artLen.toNat = 2 + s.czn.toNat + cs.length ∧ t.visibleByte 0 = s.latched.lw ∧ t.visibleByte 1 = s.latched.lh ∧
      (∀ j, j < s.czn.toNat → t.visibleByte (2 + j) = Memory.read s.art (2 + j)) ∧
      (∀ j, j < cs.length → cs[j]? = some (t.visibleByte (2 + s.czn.toNat + j))) ∧ t.pending = rest

/-- A turn of the source with BUSY = 0 presents its source and changes nothing else (R45). With BUSY = 1 it goes on only
if it changes nothing (R241; log 15). The list of turns is log 1 and the end of the CMP_START pulse log 12. -/
def Obligations.SourceTurnPresentsItsSource : Prop :=
  ∀ (s : State) (src : Source) (rest : List Turn), s.pending = .source src :: rest →
    (s.busy = false → step s = .next { s with source := src, pending := rest, cmpStart := false }) ∧
    (s.busy = true → src = s.source → step s = .next { s with pending := rest, cmpStart := false }) ∧
    (s.busy = true → src ≠ s.source → step s = .refused .sourceChangedWhileBusy)
end

