-- ==== Sys2Proof/Laws/Encoding.lean ====
section
/-! SUPPORT. The fields of an encoded word, read back one by one (`30_encoding.md` R80, R82). -/

namespace Sys2Proof

/-- Bit by bit: WDATA, then ADDR[1:0], then ADDR[15:2], then WE (R80). -/
theorem busWord_getLsbD (we : Bool) (w : WordAddr) (lo : BitVec 2) (wd : HData) (i : Nat) :
    (busWord we w lo wd).getLsbD i =
      if i < 32 then wd.getLsbD i
      else if i - 32 < 2 then lo.getLsbD (i - 32)
      else if i - 32 - 2 < 14 then w.getLsbD (i - 32 - 2)
      else (BitVec.ofBool we).getLsbD (i - 32 - 2 - 14) := by
  have h : (busWord we w lo wd).getLsbD i =
      if i < 32 then wd.getLsbD i else (BitVec.ofBool we ++ w ++ lo).getLsbD (i - 32) := BitVec.getLsbD_append ..
  rw [h, BitVec.getLsbD_append, BitVec.getLsbD_append]

theorem cmdData_getLsbD (op : BitVec 4) (hi : BitVec 28) (i : Nat) :
    (cmdData op hi).getLsbD i = if i < 4 then op.getLsbD i else hi.getLsbD (i - 4) := BitVec.getLsbD_append ..

theorem windowAddr_getLsbD (idx : BitVec 12) (i : Nat) :
    (windowAddr idx).getLsbD i = if i < 12 then idx.getLsbD i else (1#2).getLsbD (i - 12) := BitVec.getLsbD_append ..

theorem busWord_we (we : Bool) (w : WordAddr) (lo : BitVec 2) (wd : HData) :
    (busWord we w lo wd).getLsbD 48 = we := by
  rw [busWord_getLsbD]; cases we <;> rfl

theorem busWord_addr (we : Bool) (w : WordAddr) (lo : BitVec 2) (wd : HData) :
    (busWord we w lo wd).extractLsb' 34 14 = w := by
  apply BitVec.eq_of_getLsbD_eq
  intro i hi
  rw [BitVec.getLsbD_extractLsb', busWord_getLsbD, if_neg (by omega), if_neg (by omega), if_pos (by omega)]
  simp [hi, show 34 + i - 32 - 2 = i by omega]

theorem busWord_lo (we : Bool) (w : WordAddr) (lo : BitVec 2) (wd : HData) :
    (busWord we w lo wd).extractLsb' 32 2 = lo := by
  apply BitVec.eq_of_getLsbD_eq
  intro i hi
  rw [BitVec.getLsbD_extractLsb', busWord_getLsbD, if_neg (by omega), if_pos (by omega)]
  simp [hi]

theorem busWord_data (we : Bool) (w : WordAddr) (lo : BitVec 2) (wd : HData) :
    (busWord we w lo wd).extractLsb' 0 32 = wd := by
  apply BitVec.eq_of_getLsbD_eq
  intro i hi
  rw [BitVec.getLsbD_extractLsb', busWord_getLsbD, if_pos (by omega)]
  simp [hi]

@[simp] theorem cmdData_op (op : BitVec 4) (hi : BitVec 28) : (cmdData op hi).extractLsb' 0 4 = op := by
  apply BitVec.eq_of_getLsbD_eq
  intro i h
  rw [BitVec.getLsbD_extractLsb', cmdData_getLsbD, if_pos (by omega)]
  simp [h]

@[simp] theorem cmdData_hi (op : BitVec 4) (hi : BitVec 28) : (cmdData op hi).extractLsb' 4 28 = hi := by
  apply BitVec.eq_of_getLsbD_eq
  intro i h
  rw [BitVec.getLsbD_extractLsb', cmdData_getLsbD, if_neg (by omega)]
  simp [h]

@[simp] theorem windowAddr_top (idx : BitVec 12) : (windowAddr idx).extractLsb' 12 2 = 1#2 := by
  apply BitVec.eq_of_getLsbD_eq
  intro i h
  rw [BitVec.getLsbD_extractLsb', windowAddr_getLsbD, if_neg (by omega)]
  simp [h]

@[simp] theorem windowAddr_index (idx : BitVec 12) : (windowAddr idx).extractLsb' 0 12 = idx := by
  apply BitVec.eq_of_getLsbD_eq
  intro i h
  rw [BitVec.getLsbD_extractLsb', windowAddr_getLsbD, if_pos (by omega)]
  simp [h]

/-- A window word address is above every register word. -/
theorem windowAddr_ge (idx : BitVec 12) : 0x1000 ≤ (windowAddr idx).toNat := by
  have h : (windowAddr idx).toNat = 1 <<< 12 ||| idx.toNat := BitVec.toNat_append ..
  have : 1 <<< 12 ≤ 1 <<< 12 ||| idx.toNat := Nat.left_le_or
  omega

/-- `decode` of an encoded word, by its fields. -/
theorem decode_busWord (we : Bool) (w : WordAddr) (lo : BitVec 2) (wd : HData) :
    decode (busWord we w lo wd) = if we then decodeWrite w lo wd else decodeRead w lo wd := by
  rw [decode, busWord_we, busWord_addr, busWord_lo, busWord_data]

end Sys2Proof
end

