-- ==== Sys2Proof/Laws/State.lean ====
section
/-! SUPPORT. One lemma for each field of State under each named update, so that no proof unfolds an update. -/

namespace Sys2Proof.Machine

variable (s : State)

/-! ### respond -/

@[simp] theorem State.respond_targetW (v : HData) : (s.respond v).targetW = s.targetW := rfl
@[simp] theorem State.respond_targetH (v : HData) : (s.respond v).targetH = s.targetH := rfl
@[simp] theorem State.respond_thresh (v : HData) : (s.respond v).thresh = s.thresh := rfl
@[simp] theorem State.respond_invert (v : HData) : (s.respond v).invert = s.invert := rfl
@[simp] theorem State.respond_latched (v : HData) : (s.respond v).latched = s.latched := rfl
@[simp] theorem State.respond_phase (v : HData) : (s.respond v).phase = s.phase := rfl
@[simp] theorem State.respond_errcode (v : HData) : (s.respond v).errcode = s.errcode := rfl
@[simp] theorem State.respond_dropped (v : HData) : (s.respond v).dropped = s.dropped := rfl
@[simp] theorem State.respond_kb (v : HData) : (s.respond v).kb = s.kb := rfl
@[simp] theorem State.respond_plen (v : HData) : (s.respond v).plen = s.plen := rfl
@[simp] theorem State.respond_czn (v : HData) : (s.respond v).czn = s.czn := rfl
@[simp] theorem State.respond_pkv (v : HData) : (s.respond v).pkv = s.pkv := rfl
@[simp] theorem State.respond_pkd (v : HData) : (s.respond v).pkd = s.pkd := rfl
@[simp] theorem State.respond_pkl (v : HData) : (s.respond v).pkl = s.pkl := rfl
@[simp] theorem State.respond_art (v : HData) : (s.respond v).art = s.art := rfl
@[simp] theorem State.respond_cmpStart (v : HData) : (s.respond v).cmpStart = s.cmpStart := rfl
@[simp] theorem State.respond_hrdata (v : HData) : (s.respond v).hrdata = v := rfl
@[simp] theorem State.respond_source (v : HData) : (s.respond v).source = s.source := rfl
@[simp] theorem State.respond_streams (v : HData) : (s.respond v).streams = s.streams := rfl
@[simp] theorem State.respond_pending (v : HData) : (s.respond v).pending = s.pending := rfl
@[simp] theorem State.respond_freeCount (v : HData) : (s.respond v).freeCount = s.freeCount := rfl

/-! ### endOffer -/

@[simp] theorem State.endOffer_targetW : (s.endOffer).targetW = s.targetW := rfl
@[simp] theorem State.endOffer_targetH : (s.endOffer).targetH = s.targetH := rfl
@[simp] theorem State.endOffer_thresh : (s.endOffer).thresh = s.thresh := rfl
@[simp] theorem State.endOffer_invert : (s.endOffer).invert = s.invert := rfl
@[simp] theorem State.endOffer_latched : (s.endOffer).latched = s.latched := rfl
@[simp] theorem State.endOffer_phase : (s.endOffer).phase = s.phase := rfl
@[simp] theorem State.endOffer_errcode : (s.endOffer).errcode = s.errcode := rfl
@[simp] theorem State.endOffer_dropped : (s.endOffer).dropped = s.dropped := rfl
@[simp] theorem State.endOffer_kb : (s.endOffer).kb = s.kb := rfl
@[simp] theorem State.endOffer_plen : (s.endOffer).plen = s.plen := rfl
@[simp] theorem State.endOffer_czn : (s.endOffer).czn = s.czn := rfl
@[simp] theorem State.endOffer_pkv : (s.endOffer).pkv = false := rfl
@[simp] theorem State.endOffer_pkd : (s.endOffer).pkd = Config.freePkData s.freeCount := rfl
@[simp] theorem State.endOffer_pkl : (s.endOffer).pkl = Config.freePkLast s.freeCount := rfl
@[simp] theorem State.endOffer_art : (s.endOffer).art = s.art := rfl
@[simp] theorem State.endOffer_cmpStart : (s.endOffer).cmpStart = s.cmpStart := rfl
@[simp] theorem State.endOffer_hrdata : (s.endOffer).hrdata = s.hrdata := rfl
@[simp] theorem State.endOffer_source : (s.endOffer).source = s.source := rfl
@[simp] theorem State.endOffer_streams : (s.endOffer).streams = s.streams := rfl
@[simp] theorem State.endOffer_pending : (s.endOffer).pending = s.pending := rfl
@[simp] theorem State.endOffer_freeCount : (s.endOffer).freeCount = s.freeCount + 1 := rfl

/-! ### fail -/

@[simp] theorem State.fail_targetW (code : ErrCode) : (s.fail code).targetW = s.targetW := rfl
@[simp] theorem State.fail_targetH (code : ErrCode) : (s.fail code).targetH = s.targetH := rfl
@[simp] theorem State.fail_thresh (code : ErrCode) : (s.fail code).thresh = s.thresh := rfl
@[simp] theorem State.fail_invert (code : ErrCode) : (s.fail code).invert = s.invert := rfl
@[simp] theorem State.fail_latched (code : ErrCode) : (s.fail code).latched = s.latched := rfl
@[simp] theorem State.fail_phase (code : ErrCode) : (s.fail code).phase = .failed := rfl
@[simp] theorem State.fail_errcode (code : ErrCode) : (s.fail code).errcode = code := rfl
@[simp] theorem State.fail_dropped (code : ErrCode) : (s.fail code).dropped = s.dropped := rfl
@[simp] theorem State.fail_kb (code : ErrCode) : (s.fail code).kb = s.kb := rfl
@[simp] theorem State.fail_plen (code : ErrCode) : (s.fail code).plen = s.plen := rfl
@[simp] theorem State.fail_czn (code : ErrCode) : (s.fail code).czn = s.czn := rfl
@[simp] theorem State.fail_pkv (code : ErrCode) : (s.fail code).pkv = false := rfl
@[simp] theorem State.fail_pkd (code : ErrCode) : (s.fail code).pkd = Config.freePkData s.freeCount := rfl
@[simp] theorem State.fail_pkl (code : ErrCode) : (s.fail code).pkl = Config.freePkLast s.freeCount := rfl
@[simp] theorem State.fail_art (code : ErrCode) : (s.fail code).art = s.art := rfl
@[simp] theorem State.fail_cmpStart (code : ErrCode) : (s.fail code).cmpStart = s.cmpStart := rfl
@[simp] theorem State.fail_hrdata (code : ErrCode) : (s.fail code).hrdata = s.hrdata := rfl
@[simp] theorem State.fail_source (code : ErrCode) : (s.fail code).source = s.source := rfl
@[simp] theorem State.fail_streams (code : ErrCode) : (s.fail code).streams = s.streams := rfl
@[simp] theorem State.fail_pending (code : ErrCode) : (s.fail code).pending = s.pending := rfl
@[simp] theorem State.fail_freeCount (code : ErrCode) : (s.fail code).freeCount = s.freeCount + 1 := rfl

/-! ### acceptStart -/

@[simp] theorem State.acceptStart_targetW : (s.acceptStart).targetW = s.targetW := rfl
@[simp] theorem State.acceptStart_targetH : (s.acceptStart).targetH = s.targetH := rfl
@[simp] theorem State.acceptStart_thresh : (s.acceptStart).thresh = s.thresh := rfl
@[simp] theorem State.acceptStart_invert : (s.acceptStart).invert = s.invert := rfl
@[simp] theorem State.acceptStart_latched : (s.acceptStart).latched = s.latched := rfl
@[simp] theorem State.acceptStart_phase : (s.acceptStart).phase = s.phase := rfl
@[simp] theorem State.acceptStart_errcode : (s.acceptStart).errcode = .none := rfl
@[simp] theorem State.acceptStart_dropped : (s.acceptStart).dropped = false := rfl
@[simp] theorem State.acceptStart_kb : (s.acceptStart).kb = s.kb := rfl
@[simp] theorem State.acceptStart_plen : (s.acceptStart).plen = s.plen := rfl
@[simp] theorem State.acceptStart_czn : (s.acceptStart).czn = s.czn := rfl
@[simp] theorem State.acceptStart_pkv : (s.acceptStart).pkv = s.pkv := rfl
@[simp] theorem State.acceptStart_pkd : (s.acceptStart).pkd = s.pkd := rfl
@[simp] theorem State.acceptStart_pkl : (s.acceptStart).pkl = s.pkl := rfl
@[simp] theorem State.acceptStart_art : (s.acceptStart).art = s.art := rfl
@[simp] theorem State.acceptStart_cmpStart : (s.acceptStart).cmpStart = s.cmpStart := rfl
@[simp] theorem State.acceptStart_hrdata : (s.acceptStart).hrdata = s.hrdata := rfl
@[simp] theorem State.acceptStart_source : (s.acceptStart).source = s.source := rfl
@[simp] theorem State.acceptStart_streams : (s.acceptStart).streams = s.streams := rfl
@[simp] theorem State.acceptStart_pending : (s.acceptStart).pending = s.pending := rfl
@[simp] theorem State.acceptStart_freeCount : (s.acceptStart).freeCount = s.freeCount := rfl

/-! ### prependHeader -/

@[simp] theorem State.prependHeader_targetW : (s.prependHeader).targetW = s.targetW := rfl
@[simp] theorem State.prependHeader_targetH : (s.prependHeader).targetH = s.targetH := rfl
@[simp] theorem State.prependHeader_thresh : (s.prependHeader).thresh = s.thresh := rfl
@[simp] theorem State.prependHeader_invert : (s.prependHeader).invert = s.invert := rfl
@[simp] theorem State.prependHeader_latched : (s.prependHeader).latched = s.latched := rfl
@[simp] theorem State.prependHeader_phase : (s.prependHeader).phase = s.phase := rfl
@[simp] theorem State.prependHeader_errcode : (s.prependHeader).errcode = s.errcode := rfl
@[simp] theorem State.prependHeader_dropped : (s.prependHeader).dropped = s.dropped := rfl
@[simp] theorem State.prependHeader_kb : (s.prependHeader).kb = s.kb := rfl
@[simp] theorem State.prependHeader_plen : (s.prependHeader).plen = s.plen := rfl
@[simp] theorem State.prependHeader_czn : (s.prependHeader).czn = s.czn := rfl
@[simp] theorem State.prependHeader_pkv : (s.prependHeader).pkv = s.pkv := rfl
@[simp] theorem State.prependHeader_pkd : (s.prependHeader).pkd = s.pkd := rfl
@[simp] theorem State.prependHeader_pkl : (s.prependHeader).pkl = s.pkl := rfl
@[simp] theorem State.prependHeader_art :
    (s.prependHeader).art = Memory.write (Memory.write s.art 0 s.latched.lw) 1 s.latched.lh := rfl
@[simp] theorem State.prependHeader_cmpStart : (s.prependHeader).cmpStart = s.cmpStart := rfl
@[simp] theorem State.prependHeader_hrdata : (s.prependHeader).hrdata = s.hrdata := rfl
@[simp] theorem State.prependHeader_source : (s.prependHeader).source = s.source := rfl
@[simp] theorem State.prependHeader_streams : (s.prependHeader).streams = s.streams := rfl
@[simp] theorem State.prependHeader_pending : (s.prependHeader).pending = s.pending := rfl
@[simp] theorem State.prependHeader_freeCount : (s.prependHeader).freeCount = s.freeCount := rfl

/-! ### commit -/

@[simp] theorem State.commit_targetW : (s.commit).targetW = s.targetW := rfl
@[simp] theorem State.commit_targetH : (s.commit).targetH = s.targetH := rfl
@[simp] theorem State.commit_thresh : (s.commit).thresh = s.thresh := rfl
@[simp] theorem State.commit_invert : (s.commit).invert = s.invert := rfl
@[simp] theorem State.commit_latched : (s.commit).latched = s.latched := rfl
@[simp] theorem State.commit_phase : (s.commit).phase = .done := rfl
@[simp] theorem State.commit_errcode : (s.commit).errcode = s.errcode := rfl
@[simp] theorem State.commit_dropped : (s.commit).dropped = s.dropped := rfl
@[simp] theorem State.commit_kb : (s.commit).kb = s.kb := rfl
@[simp] theorem State.commit_plen : (s.commit).plen = s.plen := rfl
@[simp] theorem State.commit_czn : (s.commit).czn = s.czn := rfl
@[simp] theorem State.commit_pkv : (s.commit).pkv = s.pkv := rfl
@[simp] theorem State.commit_pkd : (s.commit).pkd = s.pkd := rfl
@[simp] theorem State.commit_pkl : (s.commit).pkl = s.pkl := rfl
@[simp] theorem State.commit_art : (s.commit).art = s.art := rfl
@[simp] theorem State.commit_cmpStart : (s.commit).cmpStart = s.cmpStart := rfl
@[simp] theorem State.commit_hrdata : (s.commit).hrdata = s.hrdata := rfl
@[simp] theorem State.commit_source : (s.commit).source = s.source := rfl
@[simp] theorem State.commit_streams : (s.commit).streams = s.streams := rfl
@[simp] theorem State.commit_pending : (s.commit).pending = s.pending := rfl
@[simp] theorem State.commit_freeCount : (s.commit).freeCount = s.freeCount := rfl

/-! ### beginStep -/

@[simp] theorem State.beginStep_targetW (rest : List Turn) : (s.beginStep rest).targetW = s.targetW := rfl
@[simp] theorem State.beginStep_targetH (rest : List Turn) : (s.beginStep rest).targetH = s.targetH := rfl
@[simp] theorem State.beginStep_thresh (rest : List Turn) : (s.beginStep rest).thresh = s.thresh := rfl
@[simp] theorem State.beginStep_invert (rest : List Turn) : (s.beginStep rest).invert = s.invert := rfl
@[simp] theorem State.beginStep_latched (rest : List Turn) : (s.beginStep rest).latched = s.latched := rfl
@[simp] theorem State.beginStep_phase (rest : List Turn) : (s.beginStep rest).phase = s.phase := rfl
@[simp] theorem State.beginStep_errcode (rest : List Turn) : (s.beginStep rest).errcode = s.errcode := rfl
@[simp] theorem State.beginStep_dropped (rest : List Turn) : (s.beginStep rest).dropped = s.dropped := rfl
@[simp] theorem State.beginStep_kb (rest : List Turn) : (s.beginStep rest).kb = s.kb := rfl
@[simp] theorem State.beginStep_plen (rest : List Turn) : (s.beginStep rest).plen = s.plen := rfl
@[simp] theorem State.beginStep_czn (rest : List Turn) : (s.beginStep rest).czn = s.czn := rfl
@[simp] theorem State.beginStep_pkv (rest : List Turn) : (s.beginStep rest).pkv = s.pkv := rfl
@[simp] theorem State.beginStep_pkd (rest : List Turn) : (s.beginStep rest).pkd = s.pkd := rfl
@[simp] theorem State.beginStep_pkl (rest : List Turn) : (s.beginStep rest).pkl = s.pkl := rfl
@[simp] theorem State.beginStep_art (rest : List Turn) : (s.beginStep rest).art = s.art := rfl
@[simp] theorem State.beginStep_cmpStart (rest : List Turn) : (s.beginStep rest).cmpStart = false := rfl
@[simp] theorem State.beginStep_hrdata (rest : List Turn) : (s.beginStep rest).hrdata = s.hrdata := rfl
@[simp] theorem State.beginStep_source (rest : List Turn) : (s.beginStep rest).source = s.source := rfl
@[simp] theorem State.beginStep_streams (rest : List Turn) : (s.beginStep rest).streams = s.streams := rfl
@[simp] theorem State.beginStep_pending (rest : List Turn) : (s.beginStep rest).pending = rest := rfl
@[simp] theorem State.beginStep_freeCount (rest : List Turn) : (s.beginStep rest).freeCount = s.freeCount := rfl

/-! ### offerNext -/

@[simp] theorem State.offerNext_targetW : (s.offerNext).targetW = s.targetW := rfl
@[simp] theorem State.offerNext_targetH : (s.offerNext).targetH = s.targetH := rfl
@[simp] theorem State.offerNext_thresh : (s.offerNext).thresh = s.thresh := rfl
@[simp] theorem State.offerNext_invert : (s.offerNext).invert = s.invert := rfl
@[simp] theorem State.offerNext_latched : (s.offerNext).latched = s.latched := rfl
@[simp] theorem State.offerNext_phase : (s.offerNext).phase = s.phase := rfl
@[simp] theorem State.offerNext_errcode : (s.offerNext).errcode = s.errcode := rfl
@[simp] theorem State.offerNext_dropped : (s.offerNext).dropped = s.dropped := rfl
@[simp] theorem State.offerNext_kb : (s.offerNext).kb = s.kb := rfl
@[simp] theorem State.offerNext_plen : (s.offerNext).plen = s.plen := rfl
@[simp] theorem State.offerNext_czn : (s.offerNext).czn = s.czn := rfl
@[simp] theorem State.offerNext_pkv : (s.offerNext).pkv = true := rfl
@[simp] theorem State.offerNext_pkd :
    (s.offerNext).pkd = packedByte blockKernel s.latched s.source.image s.kb.toNat := rfl
@[simp] theorem State.offerNext_pkl : (s.offerNext).pkl = decide (s.kb.toNat + 1 = s.plen.toNat) := rfl
@[simp] theorem State.offerNext_art : (s.offerNext).art = s.art := rfl
@[simp] theorem State.offerNext_cmpStart : (s.offerNext).cmpStart = s.cmpStart := rfl
@[simp] theorem State.offerNext_hrdata : (s.offerNext).hrdata = s.hrdata := rfl
@[simp] theorem State.offerNext_source : (s.offerNext).source = s.source := rfl
@[simp] theorem State.offerNext_streams : (s.offerNext).streams = s.streams := rfl
@[simp] theorem State.offerNext_pending : (s.offerNext).pending = s.pending := rfl
@[simp] theorem State.offerNext_freeCount : (s.offerNext).freeCount = s.freeCount := rfl

/-! ### storeCz -/

@[simp] theorem State.storeCz_targetW (d : Byte) : (s.storeCz d).targetW = s.targetW := rfl
@[simp] theorem State.storeCz_targetH (d : Byte) : (s.storeCz d).targetH = s.targetH := rfl
@[simp] theorem State.storeCz_thresh (d : Byte) : (s.storeCz d).thresh = s.thresh := rfl
@[simp] theorem State.storeCz_invert (d : Byte) : (s.storeCz d).invert = s.invert := rfl
@[simp] theorem State.storeCz_latched (d : Byte) : (s.storeCz d).latched = s.latched := rfl
@[simp] theorem State.storeCz_phase (d : Byte) : (s.storeCz d).phase = s.phase := rfl
@[simp] theorem State.storeCz_errcode (d : Byte) : (s.storeCz d).errcode = s.errcode := rfl
@[simp] theorem State.storeCz_dropped (d : Byte) : (s.storeCz d).dropped = s.dropped := rfl
@[simp] theorem State.storeCz_kb (d : Byte) : (s.storeCz d).kb = s.kb := rfl
@[simp] theorem State.storeCz_plen (d : Byte) : (s.storeCz d).plen = s.plen := rfl
@[simp] theorem State.storeCz_czn (d : Byte) : (s.storeCz d).czn = s.czn + 1 := rfl
@[simp] theorem State.storeCz_pkv (d : Byte) : (s.storeCz d).pkv = s.pkv := rfl
@[simp] theorem State.storeCz_pkd (d : Byte) : (s.storeCz d).pkd = s.pkd := rfl
@[simp] theorem State.storeCz_pkl (d : Byte) : (s.storeCz d).pkl = s.pkl := rfl
@[simp] theorem State.storeCz_art (d : Byte) : (s.storeCz d).art = Memory.write s.art s.czIndex d := rfl
@[simp] theorem State.storeCz_cmpStart (d : Byte) : (s.storeCz d).cmpStart = s.cmpStart := rfl
@[simp] theorem State.storeCz_hrdata (d : Byte) : (s.storeCz d).hrdata = s.hrdata := rfl
@[simp] theorem State.storeCz_source (d : Byte) : (s.storeCz d).source = s.source := rfl
@[simp] theorem State.storeCz_streams (d : Byte) :
    (s.storeCz d).streams = { s.streams with sent := s.streams.sent ++ [d] } := rfl
@[simp] theorem State.storeCz_pending (d : Byte) : (s.storeCz d).pending = s.pending := rfl
@[simp] theorem State.storeCz_freeCount (d : Byte) : (s.storeCz d).freeCount = s.freeCount := rfl

/-! ### beginConversion -/

@[simp] theorem State.beginConversion_targetW : (s.beginConversion).targetW = s.targetW := rfl
@[simp] theorem State.beginConversion_targetH : (s.beginConversion).targetH = s.targetH := rfl
@[simp] theorem State.beginConversion_thresh : (s.beginConversion).thresh = s.thresh := rfl
@[simp] theorem State.beginConversion_invert : (s.beginConversion).invert = s.invert := rfl
@[simp] theorem State.beginConversion_latched : (s.beginConversion).latched = s.latchedNow := rfl
@[simp] theorem State.beginConversion_phase : (s.beginConversion).phase = .pack := rfl
@[simp] theorem State.beginConversion_errcode : (s.beginConversion).errcode = s.errcode := rfl
@[simp] theorem State.beginConversion_dropped : (s.beginConversion).dropped = s.dropped := rfl
@[simp] theorem State.beginConversion_kb : (s.beginConversion).kb = 0 := rfl
@[simp] theorem State.beginConversion_plen :
    (s.beginConversion).plen = BitVec.ofNat 14 (packedLength s.latchedNow.lw s.latchedNow.lh) := rfl
@[simp] theorem State.beginConversion_czn : (s.beginConversion).czn = 0 := rfl
@[simp] theorem State.beginConversion_pkv : (s.beginConversion).pkv = false := rfl
@[simp] theorem State.beginConversion_pkd : (s.beginConversion).pkd = Config.freePkData s.freeCount := rfl
@[simp] theorem State.beginConversion_pkl : (s.beginConversion).pkl = Config.freePkLast s.freeCount := rfl
@[simp] theorem State.beginConversion_art :
    (s.beginConversion).art = Memory.write (Memory.write s.art 0 s.latchedNow.lw) 1 s.latchedNow.lh := rfl
@[simp] theorem State.beginConversion_cmpStart : (s.beginConversion).cmpStart = true := rfl
@[simp] theorem State.beginConversion_hrdata : (s.beginConversion).hrdata = s.hrdata := rfl
@[simp] theorem State.beginConversion_source : (s.beginConversion).source = s.source := rfl
@[simp] theorem State.beginConversion_streams : (s.beginConversion).streams = { taken := [], sent := [] } := rfl
@[simp] theorem State.beginConversion_pending : (s.beginConversion).pending = s.pending := rfl
@[simp] theorem State.beginConversion_freeCount : (s.beginConversion).freeCount = s.freeCount + 1 := rfl

/-! ### doReset -/

@[simp] theorem State.doReset_targetW : (s.doReset).targetW = 0 := rfl
@[simp] theorem State.doReset_targetH : (s.doReset).targetH = 0 := rfl
@[simp] theorem State.doReset_thresh : (s.doReset).thresh = 0 := rfl
@[simp] theorem State.doReset_invert : (s.doReset).invert = false := rfl
@[simp] theorem State.doReset_latched :
    (s.doReset).latched = { lw := 0, lh := 0, lt := 0, linv := false, lsw := 0, lsh := 0 } := rfl
@[simp] theorem State.doReset_phase : (s.doReset).phase = .idle := rfl
@[simp] theorem State.doReset_errcode : (s.doReset).errcode = .none := rfl
@[simp] theorem State.doReset_dropped : (s.doReset).dropped = false := rfl
@[simp] theorem State.doReset_kb : (s.doReset).kb = 0 := rfl
@[simp] theorem State.doReset_plen : (s.doReset).plen = 0 := rfl
@[simp] theorem State.doReset_czn : (s.doReset).czn = 0 := rfl
@[simp] theorem State.doReset_pkv : (s.doReset).pkv = false := rfl
@[simp] theorem State.doReset_pkd : (s.doReset).pkd = Config.freePkData s.freeCount := rfl
@[simp] theorem State.doReset_pkl : (s.doReset).pkl = Config.freePkLast s.freeCount := rfl
@[simp] theorem State.doReset_art : (s.doReset).art = Memory.ofCells (Config.freeArt s.freeCount) := rfl
@[simp] theorem State.doReset_cmpStart : (s.doReset).cmpStart = false := rfl
@[simp] theorem State.doReset_hrdata : (s.doReset).hrdata = s.hrdata := rfl
@[simp] theorem State.doReset_source : (s.doReset).source = s.source := rfl
@[simp] theorem State.doReset_streams : (s.doReset).streams = s.streams := rfl
@[simp] theorem State.doReset_pending : (s.doReset).pending = s.pending := rfl
@[simp] theorem State.doReset_freeCount : (s.doReset).freeCount = s.freeCount + 1 := rfl

/-! ### deliver -/

@[simp] theorem State.deliver_targetW : s.deliver.targetW = s.targetW := rfl
@[simp] theorem State.deliver_targetH : s.deliver.targetH = s.targetH := rfl
@[simp] theorem State.deliver_thresh : s.deliver.thresh = s.thresh := rfl
@[simp] theorem State.deliver_invert : s.deliver.invert = s.invert := rfl
@[simp] theorem State.deliver_latched : s.deliver.latched = s.latched := rfl
@[simp] theorem State.deliver_phase : s.deliver.phase = s.phase := rfl
@[simp] theorem State.deliver_errcode : s.deliver.errcode = s.errcode := rfl
@[simp] theorem State.deliver_dropped : s.deliver.dropped = s.dropped := rfl
@[simp] theorem State.deliver_kb : s.deliver.kb = s.kb + 1 := rfl
@[simp] theorem State.deliver_plen : s.deliver.plen = s.plen := rfl
@[simp] theorem State.deliver_czn : s.deliver.czn = s.czn := rfl
@[simp] theorem State.deliver_pkv : s.deliver.pkv = s.pkv := rfl
@[simp] theorem State.deliver_pkd : s.deliver.pkd = s.pkd := rfl
@[simp] theorem State.deliver_pkl : s.deliver.pkl = s.pkl := rfl
@[simp] theorem State.deliver_art : s.deliver.art = s.art := rfl
@[simp] theorem State.deliver_cmpStart : s.deliver.cmpStart = s.cmpStart := rfl
@[simp] theorem State.deliver_hrdata : s.deliver.hrdata = s.hrdata := rfl
@[simp] theorem State.deliver_source : s.deliver.source = s.source := rfl
@[simp] theorem State.deliver_streams :
    s.deliver.streams = { s.streams with taken := s.streams.taken ++ [(s.pkd, s.pkl)] } := rfl
@[simp] theorem State.deliver_pending : s.deliver.pending = s.pending := rfl
@[simp] theorem State.deliver_freeCount : s.deliver.freeCount = s.freeCount := rfl

/-! ### enterDrain -/

@[simp] theorem State.enterDrain_targetW : s.enterDrain.targetW = s.targetW := rfl
@[simp] theorem State.enterDrain_targetH : s.enterDrain.targetH = s.targetH := rfl
@[simp] theorem State.enterDrain_thresh : s.enterDrain.thresh = s.thresh := rfl
@[simp] theorem State.enterDrain_invert : s.enterDrain.invert = s.invert := rfl
@[simp] theorem State.enterDrain_latched : s.enterDrain.latched = s.latched := rfl
@[simp] theorem State.enterDrain_phase : s.enterDrain.phase = .drain := rfl
@[simp] theorem State.enterDrain_errcode : s.enterDrain.errcode = s.errcode := rfl
@[simp] theorem State.enterDrain_dropped : s.enterDrain.dropped = s.dropped := rfl
@[simp] theorem State.enterDrain_kb : s.enterDrain.kb = s.kb := rfl
@[simp] theorem State.enterDrain_plen : s.enterDrain.plen = s.plen := rfl
@[simp] theorem State.enterDrain_czn : s.enterDrain.czn = s.czn := rfl
@[simp] theorem State.enterDrain_pkv : s.enterDrain.pkv = s.pkv := rfl
@[simp] theorem State.enterDrain_pkd : s.enterDrain.pkd = s.pkd := rfl
@[simp] theorem State.enterDrain_pkl : s.enterDrain.pkl = s.pkl := rfl
@[simp] theorem State.enterDrain_art : s.enterDrain.art = s.art := rfl
@[simp] theorem State.enterDrain_cmpStart : s.enterDrain.cmpStart = s.cmpStart := rfl
@[simp] theorem State.enterDrain_hrdata : s.enterDrain.hrdata = s.hrdata := rfl
@[simp] theorem State.enterDrain_source : s.enterDrain.source = s.source := rfl
@[simp] theorem State.enterDrain_streams : s.enterDrain.streams = s.streams := rfl
@[simp] theorem State.enterDrain_pending : s.enterDrain.pending = s.pending := rfl
@[simp] theorem State.enterDrain_freeCount : s.enterDrain.freeCount = s.freeCount := rfl

end Sys2Proof.Machine
end

