-- ==== Sys2Proof/Laws/Assembly.lean ====
section
/-! SUPPORT. The host's lines: their words as encoded transactions, and what issuing one does. -/

namespace Sys2Proof.Machine

theorem writeWord_eq (a : HAddr) (d : HData) :
    writeWord a d = busWord true (a.extractLsb' 2 14) (a.extractLsb' 0 2) d := by
  have : a = (a.extractLsb' 2 14 ++ a.extractLsb' 0 2 : BitVec (14 + 2)) := by
    apply BitVec.eq_of_getLsbD_eq
    intro i hi
    rw [BitVec.getLsbD_append]
    by_cases h : i < 2
    · simp [h]
    · have e : 2 + (i - 2) = i := by omega
      have h14 : i - 2 < 14 := by omega
      simp [h, e, h14]
  apply BitVec.eq_of_getLsbD_eq
  intro i hi
  conv_lhs => rw [writeWord, this]
  simp only [busWord, BitVec.getLsbD_append, BitVec.ofBool_true]
  by_cases h1 : i < 32
  · simp [h1]
  · by_cases h2 : i - 32 < 2
    · have : i - 32 < 16 := by omega
      simp [h1, h2, this]
    · by_cases h3 : i - 32 < 16
      · have : i - 32 - 2 < 14 := by omega
        simp [h1, h2, h3, this]
      · have : ¬ i - 32 - 2 < 14 := by omega
        have e : i - 32 - 2 - 14 = i - 32 - 16 := by omega
        simp [h1, h2, h3, this, e]

/-- Issuing one transaction: it runs with the CMP_START pulse of the step before at its end. -/
theorem issueOne_eq (bt : BusWord) (s : State) : issueOne bt s = exec (decode bt) { s with cmpStart := false } := rfl

/-- Issuing a transaction that completes. -/
theorem issue_cons {bt : BusWord} {bts : List BusWord} {s t : State}
    (h : exec (decode bt) { s with cmpStart := false } = .next t) :
    issue (bt :: bts) s =
      (if (decode bt).isRead then t.hrdata :: (issue bts t).1 else (issue bts t).1, (issue bts t).2) := by
  simp [issue, issueOne_eq, h]

end Sys2Proof.Machine
end

