-- ==== Sys2Proof/Laws/Memory.lean ====
section
/-! SUPPORT. The laws of the artifact buffer: read after write, and every operation keeps the canonical form. -/

namespace Sys2Proof.Machine

/-- An address below every listed one is unlisted. -/
theorem Memory.read_below (m : Memory) (a : Nat) (h : ∀ c ∈ m, a < c.1) :
    Memory.read m a = Config.unlistedByte := by
  cases m with
  | nil => rfl
  | cons c m =>
    have hc := h c (by simp)
    have hm : ∀ d ∈ m, a < d.1 := fun d hd => h d (by simp [hd])
    simp [Memory.read, show c.1 ≠ a by omega, Memory.read_below m a hm]

theorem Memory.read_push_same (m : Memory) (a : Nat) (b : Byte) (h : ∀ c ∈ m, a < c.1) :
    Memory.read (Memory.push m a b) a = b := by
  unfold Memory.push
  split
  · rename_i hb; rw [Memory.read_below m a h, hb]
  · simp [Memory.read]

theorem Memory.read_push_other (m : Memory) (a x : Nat) (b : Byte) (h : x ≠ a) :
    Memory.read (Memory.push m a b) x = Memory.read m x := by
  unfold Memory.push
  split
  · rfl
  · simp [Memory.read, Ne.symm h]

/-- A read after a write to the same address gives the byte written. -/
theorem Memory.read_write_same (m : Memory) (a : Nat) (b : Byte) (h : m.Pairwise (fun c d => c.1 < d.1)) :
    Memory.read (Memory.write m a b) a = b := by
  induction m with
  | nil => exact Memory.read_push_same [] a b (by simp)
  | cons c m ih =>
    obtain ⟨hc, hm⟩ := List.pairwise_cons.1 h
    simp only [Memory.write]
    split
    · rename_i hlt
      refine Memory.read_push_same _ a b ?_
      intro d hd
      rcases List.mem_cons.1 hd with rfl | hd
      · exact hlt
      · exact Nat.lt_trans hlt (hc d hd)
    · split
      · rename_i heq
        exact Memory.read_push_same _ a b (fun d hd => heq ▸ hc d hd)
      · rename_i hne
        simp [Memory.read, Ne.symm hne, ih hm]

/-- A write leaves every other address alone. -/
theorem Memory.read_write_other (m : Memory) (a x : Nat) (b : Byte) (h : x ≠ a) :
    Memory.read (Memory.write m a b) x = Memory.read m x := by
  induction m with
  | nil => exact Memory.read_push_other [] a x b h
  | cons c m ih =>
    simp only [Memory.write]
    split
    · exact Memory.read_push_other _ a x b h
    · split
      · rename_i heq
        rw [Memory.read_push_other _ a x b h]
        simp [Memory.read, show c.1 ≠ x by omega]
      · simp [Memory.read, ih]

theorem Memory.mem_push {m : Memory} {a : Nat} {b : Byte} {c : Host.Cell} (h : c ∈ Memory.push m a b) :
    c = (a, b) ∧ b ≠ Config.unlistedByte ∨ c ∈ m := by
  unfold Memory.push at h
  split at h
  · exact .inr h
  · rename_i hb
    rcases List.mem_cons.1 h with rfl | h
    · exact .inl ⟨rfl, hb⟩
    · exact .inr h

/-- Every cell of a written memory is the new one or an old one. -/
theorem Memory.mem_write {m : Memory} {a : Nat} {b : Byte} {c : Host.Cell} (h : c ∈ Memory.write m a b) :
    c = (a, b) ∧ b ≠ Config.unlistedByte ∨ c ∈ m := by
  induction m with
  | nil => exact Memory.mem_push h
  | cons d m ih =>
    simp only [Memory.write] at h
    split at h
    · exact Memory.mem_push h
    · split at h
      · rcases Memory.mem_push h with h | h
        · exact .inl h
        · exact .inr (List.mem_cons_of_mem _ h)
      · rcases List.mem_cons.1 h with rfl | h
        · exact .inr (by simp)
        · rcases ih h with h | h
          · exact .inl h
          · exact .inr (List.mem_cons_of_mem _ h)

theorem Memory.pairwise_push {m : Memory} {a : Nat} (b : Byte) (hm : m.Pairwise (fun c d => c.1 < d.1))
    (h : ∀ c ∈ m, a < c.1) : (Memory.push m a b).Pairwise (fun c d => c.1 < d.1) := by
  unfold Memory.push
  split
  · exact hm
  · exact List.pairwise_cons.2 ⟨h, hm⟩

theorem Memory.pairwise_write (m : Memory) (a : Nat) (b : Byte) (h : m.Pairwise (fun c d => c.1 < d.1)) :
    (Memory.write m a b).Pairwise (fun c d => c.1 < d.1) := by
  induction m with
  | nil => exact Memory.pairwise_push b .nil (by simp)
  | cons c m ih =>
    obtain ⟨hc, hm⟩ := List.pairwise_cons.1 h
    simp only [Memory.write]
    split
    · rename_i hlt
      refine Memory.pairwise_push b h ?_
      intro d hd
      rcases List.mem_cons.1 hd with rfl | hd
      · exact hlt
      · exact Nat.lt_trans hlt (hc d hd)
    · split
      · rename_i heq
        exact Memory.pairwise_push b hm (fun d hd => heq ▸ hc d hd)
      · rename_i hnlt hne
        refine List.pairwise_cons.2 ⟨?_, ih hm⟩
        intro d hd
        rcases Memory.mem_write hd with ⟨rfl, -⟩ | hd
        · show c.1 < a; omega
        · exact hc d hd

/-- A write inside ART keeps the canonical form. -/
theorem Memory.wf_write (m : Memory) (a : Nat) (b : Byte) (ha : a < Config.artCapacity) (h : Memory.wf m) :
    Memory.wf (Memory.write m a b) := by
  refine ⟨Memory.pairwise_write m a b h.1, ?_⟩
  intro c hc
  rcases Memory.mem_write hc with ⟨rfl, hb⟩ | hc
  · exact ⟨ha, hb⟩
  · exact h.2 c hc

/-- Any cells make a memory in canonical form. -/
theorem Memory.wf_ofCells (cells : List Host.Cell) : Memory.wf (Memory.ofCells cells) := by
  unfold Memory.ofCells
  suffices h : ∀ m, Memory.wf m → Memory.wf
      (cells.foldl (fun m c => if c.1 < Config.artCapacity then Memory.write m c.1 c.2 else m) m) from
    h [] ⟨.nil, by simp⟩
  induction cells with
  | nil => exact fun m hm => hm
  | cons c cells ih =>
    intro m hm
    simp only [List.foldl_cons]
    split
    · rename_i hc; exact ih _ (Memory.wf_write m c.1 c.2 hc hm)
    · exact ih _ hm

/-- The buffer of the reset state is in canonical form. -/
theorem reset_art_wf : Memory.wf State.reset.art := ⟨.nil, by simp [State.reset]⟩

end Sys2Proof.Machine
end

