-- ==== Sys2Proof/Laws/Ops.lean ====
section
/-! SUPPORT. What each shared operation can do, said once: the cases of START, CZ_BYTE and PK_XFER, and the small lemmas
of the phases, the artifact's bytes and the field helpers. -/

namespace Sys2Proof.Machine

theorem State.busy_iff (s : State) : s.busy = true ↔ s.phase = .pack ∨ s.phase = .drain := by
  simp [State.busy]

theorem State.not_busy_iff (s : State) : s.busy = false ↔ s.phase ≠ .pack ∧ s.phase ≠ .drain := by
  simp [State.busy]

/-- R103 as the inequality it is. -/
theorem validParams_iff (tw th : BitVec 16) :
    validParams tw th = true ↔ (1 ≤ tw.toNat ∧ tw.toNat ≤ 255) ∧ 1 ≤ th.toNat ∧ th.toNat ≤ 255 := by
  have hw : tw = 0 ↔ tw.toNat = 0 := by rw [← BitVec.toNat_inj]; simp
  have hh : th = 0 ↔ th.toNat = 0 := by rw [← BitVec.toNat_inj]; simp
  simp only [validParams, Config.tdimMax, hw, hh, Bool.not_eq_true', Bool.or_eq_false_iff, decide_eq_false_iff_not]
  omega

theorem lowByte_toNat (v : BitVec 16) (h : v.toNat ≤ 255) : (lowByte v).toNat = v.toNat := by
  simp [lowByte, BitVec.extractLsb'_toNat]
  omega

/-- The four ways START ends (R101, in the order of R205). -/
theorem State.start_cases (s : State) :
    (s.busy = true ∧ s.start = { s with dropped := true }) ∨
    (s.busy = false ∧ validParams s.targetW s.targetH = false ∧
      s.start = ({ s.acceptStart with plen := 0 } : State).fail .invalidParams) ∨
    (s.busy = false ∧ validParams s.targetW s.targetH = true ∧ s.source.available = false ∧
      s.start = ({ s.acceptStart with plen := 0 } : State).fail .sourceUnavailable) ∨
    (s.busy = false ∧ validParams s.targetW s.targetH = true ∧ s.source.available = true ∧
      s.start = s.acceptStart.beginConversion) := by
  unfold State.start
  cases s.busy <;> cases validParams s.targetW s.targetH <;> cases s.source.available <;> simp

/-- The ways CZ_BYTE ends (R182, in the order of R206). -/
theorem State.czByte_cases (s : State) (d : Byte) (last : Bool) :
    (s.busy = false ∧ s.czByte d last = s) ∨
    (s.busy = true ∧ Config.czMax ≤ s.czn.toNat ∧ s.czByte d last = s.fail .compressionError) ∨
    (s.busy = true ∧ s.czn.toNat < Config.czMax ∧ last = false ∧ s.czByte d last = s.storeCz d) ∨
    (s.phase = .pack ∧ s.czn.toNat < Config.czMax ∧ last = true ∧
      s.czByte d last = (s.storeCz d).fail .compressionError) ∨
    (s.phase = .drain ∧ s.czn.toNat < Config.czMax ∧ last = true ∧ s.czByte d last = (s.storeCz d).commit) := by
  unfold State.czByte
  by_cases hb : s.busy = true
  · by_cases hc : Config.czMax ≤ s.czn.toNat
    · simp [hb, hc]
    · rcases s.busy_iff.1 hb with hp | hp <;> cases last <;> simp [hb, hc, hp] <;> omega
  · simp [hb]

/-- The two ways PK_XFER ends (R166). -/
theorem State.takeOffer_cases (s : State) :
    (s.pkl = false ∧ s.takeOffer = s.deliver.endOffer) ∨ (s.pkl = true ∧ s.takeOffer = s.deliver.endOffer.enterDrain) := by
  unfold State.takeOffer
  cases s.pkl <;> simp

/-- KB and CZN do not wrap where they count. -/
theorem succ_toNat (v : BitVec 14) (h : v.toNat < 16383) : (v + 1).toNat = v.toNat + 1 := by
  rw [BitVec.toNat_add]
  simp
  omega

@[simp] theorem czMax_eq : Config.czMax = 16382 := rfl
@[simp] theorem artCapacity_eq : Config.artCapacity = 16384 := rfl
@[simp] theorem plenMax_eq : Config.plenMax = 8129 := rfl

/-- PRODUCE is enabled exactly as R165 says. -/
theorem State.produceEnabled_iff (s : State) :
    s.produceEnabled = true ↔ s.phase = .pack ∧ s.pkv = false ∧ s.kb.toNat < s.plen.toNat := by
  simp [State.produceEnabled, and_assoc]

/-- The header leaves every byte but ART[0] and ART[1] (R180). -/
theorem State.prependHeader_read_other (s : State) (a : Nat) (h : 2 ≤ a) :
    Memory.read s.prependHeader.art a = Memory.read s.art a := by
  rw [State.prependHeader_art, Memory.read_write_other _ _ _ _ (by omega), Memory.read_write_other _ _ _ _ (by omega)]

theorem State.prependHeader_read_zero (s : State) (h : Memory.wf s.art) :
    Memory.read s.prependHeader.art 0 = s.latched.lw := by
  rw [State.prependHeader_art, Memory.read_write_other _ _ _ _ (by omega), Memory.read_write_same _ _ _ h.1]

theorem State.prependHeader_read_one (s : State) (h : Memory.wf s.art) :
    Memory.read s.prependHeader.art 1 = s.latched.lh := by
  rw [State.prependHeader_art, Memory.read_write_same _ _ _ (Memory.pairwise_write _ _ _ h.1)]

/-- A stored byte lands at `2 + CZN` and nowhere else (R182). -/
theorem State.storeCz_read (s : State) (d : Byte) (a : Nat) (h : Memory.wf s.art) :
    Memory.read (s.storeCz d).art a = if a = s.czIndex then d else Memory.read s.art a := by
  split
  · rename_i ha; rw [ha, State.storeCz_art, Memory.read_write_same _ _ _ h.1]
  · rename_i ha; rw [State.storeCz_art, Memory.read_write_other _ _ _ _ ha]

end Sys2Proof.Machine
end

