-- ==== Sys2Proof/Laws/PerInstr.lean ====
section
/-! SUPPORT. The family WriteEnable: bit 48 of an instruction's word tells a write from a read (`30_encoding.md` R80). -/

namespace Sys2Proof.Laws.WriteEnable

/-- The word of `i`, where it has one, has WE = 1 exactly when `i` is not a read. -/
def Statement (i : Instr) : Prop := ∀ bt, encode i = some bt → bt.getLsbD 48 = !i.isRead

theorem of_encode {i : Instr} {we : Bool} {w : WordAddr} {lo : BitVec 2} {wd : HData}
    (h : encode i = some (busWord we w lo wd)) (hr : we = !i.isRead) : Statement i := by
  intro bt hb
  obtain rfl : busWord we w lo wd = bt := Option.some.inj (h.symm.trans hb)
  rw [busWord_we, hr]

theorem of_none {i : Instr} (h : encode i = none) : Statement i := by
  intro bt hb
  rw [h] at hb
  cases hb

theorem wrCmdNop (lo : BitVec 2) (hi : BitVec 28) : Statement (.wrCmdNop lo hi) := of_encode rfl rfl
theorem wrCmdStart (lo : BitVec 2) (hi : BitVec 28) : Statement (.wrCmdStart lo hi) := of_encode rfl rfl
theorem wrCmdRsv (op : BitVec 4) (lo : BitVec 2) (hi : BitVec 28) : Statement (.wrCmdRsv op lo hi) := of_encode rfl rfl
theorem rdCmd (lo : BitVec 2) (wd : HData) : Statement (.rdCmd lo wd) := of_encode rfl rfl
theorem rdStatus (lo : BitVec 2) (wd : HData) : Statement (.rdStatus lo wd) := of_encode rfl rfl
theorem wrStatus (lo : BitVec 2) (wd : HData) : Statement (.wrStatus lo wd) := of_encode rfl rfl
theorem rdTargetW (lo : BitVec 2) (wd : HData) : Statement (.rdTargetW lo wd) := of_encode rfl rfl
theorem wrTargetW (lo : BitVec 2) (wd : HData) : Statement (.wrTargetW lo wd) := of_encode rfl rfl
theorem rdTargetH (lo : BitVec 2) (wd : HData) : Statement (.rdTargetH lo wd) := of_encode rfl rfl
theorem wrTargetH (lo : BitVec 2) (wd : HData) : Statement (.wrTargetH lo wd) := of_encode rfl rfl
theorem rdConfig (lo : BitVec 2) (wd : HData) : Statement (.rdConfig lo wd) := of_encode rfl rfl
theorem wrConfig (lo : BitVec 2) (wd : HData) : Statement (.wrConfig lo wd) := of_encode rfl rfl
theorem rdSrcDim (lo : BitVec 2) (wd : HData) : Statement (.rdSrcDim lo wd) := of_encode rfl rfl
theorem wrSrcDim (lo : BitVec 2) (wd : HData) : Statement (.wrSrcDim lo wd) := of_encode rfl rfl
theorem rdPackedLen (lo : BitVec 2) (wd : HData) : Statement (.rdPackedLen lo wd) := of_encode rfl rfl
theorem wrPackedLen (lo : BitVec 2) (wd : HData) : Statement (.wrPackedLen lo wd) := of_encode rfl rfl
theorem rdArtLen (lo : BitVec 2) (wd : HData) : Statement (.rdArtLen lo wd) := of_encode rfl rfl
theorem wrArtLen (lo : BitVec 2) (wd : HData) : Statement (.wrArtLen lo wd) := of_encode rfl rfl
theorem rdArt (idx : BitVec 12) (lo : BitVec 2) (wd : HData) : Statement (.rdArt idx lo wd) := of_encode rfl rfl
theorem wrArt (idx : BitVec 12) (lo : BitVec 2) (wd : HData) : Statement (.wrArt idx lo wd) := of_encode rfl rfl
theorem rdRsv (w : WordAddr) (lo : BitVec 2) (wd : HData) : Statement (.rdRsv w lo wd) := of_encode rfl rfl
theorem wrRsv (w : WordAddr) (lo : BitVec 2) (wd : HData) : Statement (.wrRsv w lo wd) := of_encode rfl rfl
theorem produce : Statement .produce := of_none rfl
theorem pkXfer : Statement .pkXfer := of_none rfl
theorem czByte (data : Byte) (last : Bool) : Statement (.czByte data last) := of_none rfl
theorem czFail : Statement .czFail := of_none rfl
theorem reset : Statement .reset := of_none rfl

end Sys2Proof.Laws.WriteEnable
end

