-- ==== Sys2Proof/Laws/Step.lean ====
section
/-! SUPPORT. What one step can do, said once. -/

namespace Sys2Proof.Machine

/-- The source's turn (R241): refused while busy unless nothing changes. -/
theorem State.present_cases (s : State) (src : Source) :
    (s.busy = true ∧ src = s.source ∧ s.present src = .next s) ∨
    (s.busy = true ∧ src ≠ s.source ∧ s.present src = .refused .sourceChangedWhileBusy) ∨
    (s.busy = false ∧ s.present src = .next { s with source := src }) := by
  unfold State.present
  cases s.busy <;> by_cases h : src = s.source <;> simp [h]

/-- The turns: a source presents, an idle CZ port does nothing, every other turn runs an instruction. -/
theorem runTurn_cases (t : Turn) (s : State) :
    (∃ src, t = .source src ∧ runTurn t s = s.present src) ∨
    (∃ i, t.instr = some i ∧ runTurn t s = exec i s) ∨
    (t.instr = none ∧ (∀ src, t ≠ .source src) ∧ runTurn t s = .next s) := by
  cases t with
  | source src => exact .inl ⟨src, rfl, rfl⟩
  | cz valid data last error => cases error <;> cases valid <;> simp [Turn.instr, runTurn]
  | _ => exact .inr (.inl ⟨_, rfl, rfl⟩)

/-- A step to a next state is the sequencer's own move, an instruction of the first waiting turn, or a turn of the
source or of an idle CZ port. -/
theorem step_cases {s t : State} (h : step s = .next t) :
    (s.pending = [] ∧ exec .produce (s.beginStep []) = .next t) ∨
    (∃ u rest i, s.pending = u :: rest ∧ u.instr = some i ∧ exec i (s.beginStep rest) = .next t) ∨
    (∃ u rest, s.pending = u :: rest ∧ t = s.beginStep rest) ∨
    (∃ src rest, s.pending = .source src :: rest ∧ s.busy = false ∧
      t = { s.beginStep rest with source := src }) := by
  unfold step at h
  split at h
  · rename_i hp; exact .inl ⟨hp, h⟩
  · rename_i u rest hp
    rcases runTurn_cases u (s.beginStep rest) with ⟨src, rfl, hr⟩ | ⟨i, hi, hr⟩ | ⟨-, -, hr⟩
    · rw [hr] at h
      rcases (s.beginStep rest).present_cases src with ⟨-, -, hq⟩ | ⟨-, -, hq⟩ | ⟨hb, hq⟩ <;> rw [hq] at h
      · cases h; exact .inr (.inr (.inl ⟨_, _, hp, rfl⟩))
      · cases h
      · cases h; exact .inr (.inr (.inr ⟨_, _, hp, hb, rfl⟩))
    · exact .inr (.inl ⟨u, rest, i, hp, hi, hr ▸ h⟩)
    · rw [hr] at h; cases h; exact .inr (.inr (.inl ⟨u, rest, hp, rfl⟩))

/-- A placed word is the host's next turn. -/
theorem State.withFetchWord_eq (s : State) (nbits w : Nat) (h : w % 2 ^ nbits < 2 ^ 49) :
    s.withFetchWord nbits w = { s with pending := .bus (BitVec.ofNat 49 (w % 2 ^ nbits)) :: s.pending } := if_pos h

/-- A run of one step more, where the first step goes on. -/
theorem run_succ (k : Nat) (s t : State) (h : step s = .next t) :
    Host.Core.run core (k + 1) s = Host.Core.run core k t := by
  have hc : core.step s = .next t := h
  simp only [Host.Core.run, hc]

end Sys2Proof.Machine
end

