-- ==== Sys2Proof/Tests/Slice0.lean ====
section
/-! SUPPORT. Small tests, their expected values from spec/95_test_vectors.md and from the rules' own examples, and for
each obligation with hypotheses a concrete state that meets them. -/

namespace Sys2Proof.Tests

open Sys2Proof Sys2Proof.Machine

/-! ## WellFormed refuses ill-formed terms (R82) -/

theorem test_wf_refuses_nop_as_reserved : (Instr.wrCmdRsv 0 0 0).wf = false := by decide
theorem test_wf_refuses_start_as_reserved : (Instr.wrCmdRsv 1 0 0).wf = false := by decide
theorem test_wf_refuses_register_as_reserved_read : (Instr.rdRsv 7 0 0).wf = false := by decide
theorem test_wf_refuses_window_as_reserved_read : (Instr.rdRsv 0x1000 0 0).wf = false := by decide
theorem test_wf_refuses_window_as_reserved_write : (Instr.wrRsv 0x1FFF 0 0).wf = false := by decide
theorem test_wf_accepts_first_reserved_addresses :
    (Instr.rdRsv 8 0 0).wf = true ∧ (Instr.wrRsv 0x2000 0 0).wf = true := by decide

/-! ## Words written out from R80 and R82 -/

theorem test_decode_commands :
    decode 0x1000000000010#49 = .wrCmdNop 0 1 ∧ decode 0x1000000000011#49 = .wrCmdStart 0 1 ∧
    decode 0x100000000000F#49 = .wrCmdRsv 15 0 0 ∧ decode 0x0000000000000#49 = .rdCmd 0 0 := by decide
theorem test_decode_status :
    decode 0x0000400000000#49 = .rdStatus 0 0 ∧ decode 0x10004FFFFFFFF#49 = .wrStatus 0 0xFFFFFFFF := by decide
theorem test_decode_target_width :
    decode 0x0000800000000#49 = .rdTargetW 0 0 ∧ decode 0x10008FFFF012C#49 = .wrTargetW 0 0xFFFF012C := by decide
theorem test_decode_target_height :
    decode 0x0000C00000000#49 = .rdTargetH 0 0 ∧ decode 0x1000C0000012C#49 = .wrTargetH 0 300 := by decide
theorem test_decode_config :
    decode 0x0001000000000#49 = .rdConfig 0 0 ∧ decode 0x100100000017F#49 = .wrConfig 0 0x17F := by decide
theorem test_decode_source_size :
    decode 0x0001400000000#49 = .rdSrcDim 0 0 ∧ decode 0x1001400010001#49 = .wrSrcDim 0 0x10001 := by decide
theorem test_decode_packed_length :
    decode 0x0001800000000#49 = .rdPackedLen 0 0 ∧ decode 0x1001800000005#49 = .wrPackedLen 0 5 := by decide
theorem test_decode_artifact_length :
    decode 0x0001C00000000#49 = .rdArtLen 0 0 ∧ decode 0x1001C00000000#49 = .wrArtLen 0 0 := by decide
theorem test_decode_window :
    decode 0x0400400000000#49 = .rdArt 1 0 0 ∧ decode 0x17FFC00000001#49 = .wrArt 0xFFF 0 1 := by decide
theorem test_decode_reserved :
    decode 0x0002000000000#49 = .rdRsv 8 0 0 ∧ decode 0x1800000000001#49 = .wrRsv 0x2000 0 1 := by decide
/-- ADDR[1:0] are kept as an operand and do not change the row (R61). -/
theorem test_decode_unaligned : decode 0x0000700000000#49 = .rdStatus 3 0 := by decide
theorem test_number_above_word_is_refused : decodeTableWord 56 (2 ^ 49) = none := by decide

/-! ## States -/

/-- A source of one colour. -/
def uniformSource (w h : BitVec 16) (c : Rgba) : Source := ⟨true, w, h, ⟨c, []⟩⟩

def white : Rgba := ⟨255, 255, 255, 255⟩

/-- After reset, with the 8x1 white source of Scenario A, TW = 8, TH = 1, THRESH = 127. -/
def idle : State := { State.reset with targetW := 8, targetH := 1, thresh := 127, source := uniformSource 8 1 white }

/-- Scenario A after its START. -/
def packing : State := { idle with
  latched := ⟨8, 1, 127, false, 8, 1⟩, phase := .pack, plen := 1, art := [(0, 8), (1, 1)] }

/-- Scenario A with its one byte on offer. -/
def offering : State := { packing with pkv := true, pkd := 0xFF, pkl := true }

/-- Scenario A after its last PK byte. -/
def draining : State := { packing with phase := .drain, kb := 1, streams := ⟨[(0xFF, true)], []⟩ }

/-- Scenario A with all compressed bytes but the last. -/
def almostDone : State := { draining with
  czn := 8, art := [(0, 8), (1, 1), (2, 0x78), (3, 0x9C), (4, 0xFB), (5, 0x0F), (7, 1), (9, 1)]
  streams := ⟨[(0xFF, true)], [0x78, 0x9C, 0xFB, 0x0F, 0, 1, 0, 1]⟩ }

/-- Scenario A at its end (L1-1). -/
def done : State := { almostDone with
  phase := .done, czn := 9, streams := ⟨[(0xFF, true)], [0x78, 0x9C, 0xFB, 0x0F, 0, 1, 0, 1, 0]⟩ }

/-- A conversion that failed in the compressor. -/
def failed : State := { packing with phase := .failed, errcode := .compressionError }

/-- Scenario D at its last byte: 130x1 white, KB = 16. -/
def scenarioD : State := { packing with
  targetW := 130, source := uniformSource 130 1 white, latched := ⟨130, 1, 127, false, 130, 1⟩
  plen := 17, kb := 16, art := [(0, 130), (1, 1)] }

/-- A full buffer less one byte, and a full one. -/
def nearlyFull : State := { draining with czn := 16381 }
def full : State := { draining with czn := 16382 }

/-- What an instruction leaves, seen through `f`. -/
def after {α : Type} (i : Instr) (s : State) (f : State → α) : Option α :=
  match exec i s with
  | .next t => some (f t)
  | _ => none

/-- The word a read answers. -/
def answer (i : Instr) (s : State) : Option Nat := after i s fun t => t.hrdata.toNat

/-! ## One step of each instruction -/

theorem test_nop_in_pack : after (.wrCmdNop 0 1) packing id = some packing := by decide
/-- R101's example. -/
theorem test_start_scenario_A : after (.wrCmdStart 0 0) idle (fun t =>
    (t.phase, t.plen, Memory.read t.art 0, Memory.read t.art 1, t.cmpStart, t.statusWord)) =
    some (.pack, 1, 8, 1, true, 0x00010101) := by decide
/-- V-H9: INVALID_PARAMS is checked first. -/
theorem test_start_rejects_zero_width_first :
    after (.wrCmdStart 0 0) { idle with targetW := 0, source := { idle.source with ready := false } }
      (fun t => (t.statusWord, t.plen, t.cmpStart, t.art)) = some (0x414, 0, false, []) := by decide
theorem test_reserved_command_in_done : after (.wrCmdRsv 2 0 0) done id = some done := by decide
theorem test_read_cmd : answer (.rdCmd 0 0) packing = some 0 := by decide
/-- R105's example and V-H12. -/
theorem test_read_status : answer (.rdStatus 0 0) done = some 0x00010302 ∧
    answer (.rdStatus 0 0) { packing with dropped := true } = some 0x00010109 := by decide
theorem test_write_status : after (.wrStatus 0 0xFFFFFFFF) failed id = some failed := by decide
theorem test_read_target_width : answer (.rdTargetW 0 0) { packing with targetW := 300 } = some 300 := by decide
/-- V-H3. -/
theorem test_write_target_width : after (.wrTargetW 0 0xFFFF012C) packing (fun t => (t.targetW, t.latched.lw)) =
    some (0x012C, 8) := by decide
theorem test_read_target_height : answer (.rdTargetH 0 0) State.reset = some 0 := by decide
theorem test_write_target_height : after (.wrTargetH 0 300) idle (fun t => t.targetH) = some 300 := by decide
/-- V-H4. -/
theorem test_read_config : answer (.rdConfig 0 0) { idle with thresh := 0xFF, invert := true } = some 0x1FF := by decide
/-- R112's example. -/
theorem test_write_config : after (.wrConfig 0 0x17F) packing (fun t => (t.thresh, t.invert, t.latched.linv)) =
    some (127, true, false) := by decide
/-- V-H20. -/
theorem test_read_source_size :
    answer (.rdSrcDim 0 0) { idle with source := uniformSource 640 480 white } = some 0x01E00280 := by decide
theorem test_write_source_size : after (.wrSrcDim 0 0x00010001) idle id = some idle := by decide
theorem test_read_packed_length : answer (.rdPackedLen 0 0) scenarioD = some 17 := by decide
theorem test_write_packed_length : after (.wrPackedLen 0 5) packing id = some packing := by decide
theorem test_read_artifact_length :
    answer (.rdArtLen 0 0) done = some 11 ∧ answer (.rdArtLen 0 0) packing = some 0 := by decide
theorem test_write_artifact_length : after (.wrArtLen 0 0) done id = some done := by decide
/-- V-H16. -/
theorem test_read_window : answer (.rdArt 0 0 0) done = some 0x9C780108 ∧ answer (.rdArt 1 0 0) done = some 0x01000FFB ∧
    answer (.rdArt 2 0 0) done = some 0x00000100 ∧ answer (.rdArt 3 0 0) done = some 0 := by decide
theorem test_window_hidden_in_pack : answer (.rdArt 0 0 0) packing = some 0 := by decide
theorem test_write_window : after (.wrArt 0 0 0) done id = some done := by decide
theorem test_read_reserved : answer (.rdRsv 8 0 0) idle = some 0 := by decide
theorem test_write_reserved : after (.wrRsv 0x2000 0 1) idle id = some idle := by decide
/-- Scenario A, and Scenario D at KB = 16 (R165's example). -/
theorem test_produce_scenarios :
    after .produce packing (fun t => (t.pkd, t.pkl, t.pkv)) = some (0xFF, true, true) ∧
    after .produce scenarioD (fun t => (t.pkd, t.pkl, t.pkv)) = some (0xC0, true, true) := by decide
/-- Scenario C: black, invert; and V-K1 at LT = 19. -/
theorem test_produce_inverted_and_grey :
    after .produce { packing with source := uniformSource 8 1 ⟨0, 0, 0, 255⟩, latched := ⟨8, 1, 127, true, 8, 1⟩ }
      (fun t => t.pkd) = some 0xFF ∧
    after .produce { packing with source := uniformSource 2 3 ⟨10, 20, 30, 40⟩, latched := ⟨8, 1, 19, false, 2, 3⟩ }
      (fun t => t.pkd) = some 0x00 := by decide
/-- R166's example. -/
theorem test_pk_xfer_last : after .pkXfer offering (fun t => (t.kb, t.pkv, t.phase, t.streams.taken)) =
    some (1, false, .drain, [(0xFF, true)]) := by decide
/-- V-P12. -/
theorem test_pk_xfer_not_last : after .pkXfer { scenarioD with kb := 0, pkv := true, pkd := 0xFF, pkl := false }
    (fun t => (t.kb, t.pkv, t.phase)) = some (1, false, .pack) := by decide
/-- V-Z3 and V-Z7. -/
theorem test_cz_byte_commits :
    after (.czByte 0x01 true) almostDone (fun t => (Memory.read t.art 10, t.czn, t.artLen, t.statusWord)) =
      some (1, 9, 11, 0x10302) ∧
    after (.czByte 0xAB true) nearlyFull (fun t => (Memory.read t.art 16383, t.artLen, t.windowWord 0xFFF)) =
      some (0xAB, 16384, 0xAB000000) := by decide
/-- V-Z5 and V-Z6. -/
theorem test_cz_byte_fails :
    after (.czByte 0x00 true) { packing with czn := 3 } (fun t => (t.czn, t.statusWord)) = some (4, 0x10434) ∧
    after (.czByte 0x55 true) full (fun t => (t.czn, t.art, t.statusWord)) = some (16382, full.art, 0x10434) := by decide
/-- V-Z9, V-Z11. -/
theorem test_cz_fail :
    after .czFail packing (fun t => (t.statusWord, t.artLen)) = some (0x10434, 0) ∧
    after .czFail done id = some done := by decide
/-- V-R1. -/
theorem test_reset_in_pack : after .reset { scenarioD with thresh := 0x7F, invert := true, pkv := true }
    (fun t => (t.targetW, t.thresh, t.kb, t.plen, t.pkv, t.statusWord)) = some (0, 0, 0, 0, false, 0x10000) := by decide
/-- V-R2. -/
theorem test_reset_in_done : after .reset done (fun t => (t.artLen, t.windowWord 0)) = some (0, 0) := by decide

/-- CMP_START is a pulse of one step: 1 after the START, 0 after the host's next read (R10, R46). -/
theorem test_cmp_start_is_one_step :
    (issue HostLine.start.words idle).2.cmpStart = true ∧
    (issue (HostLine.start.words ++ (HostLine.rd 0x0004).words) idle).2.cmpStart = false ∧
    (issue (HostLine.start.words ++ (HostLine.rd 0x0004).words) idle).1 = [0x00010101] := by decide

/-- A word placed for the next step is what the next step runs (V-H6: OP = 1 in 0x11 is a START). -/
theorem test_placed_word_runs : (match step (idle.withFetchWord 49 0x1000000000011) with
    | .next t => some (t.phase, t.pending)
    | _ => none) = some (.pack, []) := by decide

/-- The words of R92 and R93, and READART of L1-1's artifact. -/
theorem test_host_lines :
    (HostLine.cfg 130 1 127 1).words = [0x1000800000082#49, 0x1000C00000001#49, 0x100100000017F#49] ∧
    HostLine.start.words = [0x1000000000001#49] ∧ (HostLine.rd 0x0004).words = [0x0000400000000#49] ∧
    artBytes 11 (issue (HostLine.readArt 11).words done).1 =
      [0x08, 0x01, 0x78, 0x9C, 0xFB, 0x0F, 0x00, 0x01, 0x00, 0x01, 0x00] := by decide

/-! ## The binarizer and the packer (V-B, V-P) -/

/-- V-B10, V-B11, V-B12, V-B16, V-B19. -/
theorem test_classify :
    classify ⟨1, 113, 205, 255⟩ 90 false = false ∧ classify ⟨1, 113, 205, 255⟩ 89 false = true ∧
    classify ⟨1, 113, 205, 255⟩ 90 true = true ∧ classify ⟨100, 100, 100, 0⟩ 99 false = true ∧
    classify ⟨0, 255, 0, 255⟩ 150 false = false := by decide
/-- V-B18, V-B20, V-B22, V-B24. -/
theorem test_luma : luma1000 ⟨0, 255, 0, 255⟩ = 149685 ∧ luma1000 ⟨255, 0, 0, 255⟩ = 76245 ∧
    luma1000 ⟨0, 0, 255, 255⟩ = 29070 ∧ luma1000 ⟨254, 255, 255, 255⟩ = 254701 := by decide
/-- V-P1. -/
theorem test_packed_length : packedLength 1 1 = 1 ∧ packedLength 9 1 = 2 ∧ packedLength 130 1 = 17 ∧
    packedLength 255 1 = 32 ∧ packedLength 128 64 = 1024 ∧ packedLength 255 255 = 8129 := by decide
/-- V-P4, V-P5, V-P6. -/
theorem test_pack_byte :
    packByte 8 (fun i => [true, false, true, true, false, false, true, false].getD i false) 0 = 0xB2 ∧
    packByte 8 (fun i => decide (i = 7)) 0 = 0x01 ∧ packByte 9 (fun _ => true) 0 = 0xFF ∧
    packByte 9 (fun _ => true) 1 = 0x80 := by decide

/-- The kernel that answers the sample at the target's own place (R144). -/
def unitKernel : Kernel := fun samples lsw _ _ _ x y => samples.getD (y * lsw.toNat + x) default

/-- The 3x3 image of P3. -/
def imageP3 : Image := ⟨⟨0, 0, 0, 255⟩, [(1, 0, ⟨255, 255, 255, 255⟩), (2, 0, ⟨120, 120, 120, 255⟩),
  (0, 1, ⟨200, 10, 10, 255⟩), (1, 1, ⟨10, 200, 10, 255⟩), (2, 1, ⟨10, 10, 200, 0⟩),
  (0, 2, ⟨100, 100, 100, 255⟩), (1, 2, ⟨101, 100, 100, 255⟩), (2, 2, ⟨0, 0, 255, 255⟩)]⟩

/-- P3, both polarities. -/
theorem test_packed_P3 :
    packedBitmap (admissible unitKernel) ⟨3, 3, 100, false, 3, 3⟩ imageP3 = [0x69, 0x00] ∧
    packedBitmap (admissible unitKernel) ⟨3, 3, 100, true, 3, 3⟩ imageP3 = [0x96, 0x80] := by decide

/-! ## Memory -/

/-- Writing what an unlisted address reads as removes the entry. -/
theorem test_memory_write_unlisted : Memory.write [(3, 5), (7, 1)] 3 0 = [(7, 1)] := by decide
theorem test_memory_write_between : Memory.write [(3, 5), (7, 1)] 4 9 = [(3, 5), (4, 9), (7, 1)] := by decide

/-! ## The states meet the invariants -/

theorem inv_idle : idle.Inv := by constructor <;> decide
theorem inv_packing : packing.Inv := by constructor <;> decide
theorem inv_offering : offering.Inv := by constructor <;> decide
theorem inv_draining : draining.Inv := by constructor <;> decide
theorem inv_almostDone : almostDone.Inv := by constructor <;> decide
theorem inv_done : done.Inv := by constructor <;> decide
theorem inv_failed : failed.Inv := by constructor <;> decide
theorem inv_full : full.Inv := by constructor <;> decide
theorem inv_nearlyFull : nearlyFull.Inv := by constructor <;> decide
theorem streams_packing : packing.StreamInv := by constructor <;> decide
theorem streams_offering : offering.StreamInv := by constructor <;> decide
theorem streams_almostDone : almostDone.StreamInv := by constructor <;> decide
theorem streams_done : done.StreamInv := by constructor <;> decide

/-! ## Witnesses: for each obligation with hypotheses, a concrete case that meets them together -/

/-- DecodeGivesBackWhatWasEncoded, at the last reserved OP. -/
theorem witness_decode_gives_back :
    (Instr.wrCmdRsv 15 3 0xFFFFFFF).wf = true ∧ encode (.wrCmdRsv 15 3 0xFFFFFFF) = some 0x10003FFFFFFFF#49 := by decide

/-- StepRunsTheWaitingTurn, its two clauses. -/
theorem witness_waiting_turn :
    ({ idle with pending := [.bus 1] } : State).pending = .bus 1 :: [] ∧
    ({ idle with pending := [.cz true 5 true false] } : State).pending = .cz true 5 true false :: [] ∧
    (Turn.cz true 5 true false).instr = some (.czByte 5 true) := by decide

/-- PlacedWordRunsNext, at the highest word. -/
theorem witness_placed_word : decodeTableWord 56 (2 ^ 49 - 1) = some (.wrRsv 0x3FFF 3 0xFFFFFFFF) := by decide

/-- SequencerMovesWhenNobodyElseDoes: PRODUCE enabled, a byte on offer in PACK, and a phase other than PACK. -/
theorem witness_sequencer :
    (packing.pending = [] ∧ packing.phase = .pack ∧ packing.pkv = false ∧ packing.kb.toNat < packing.plen.toNat) ∧
    (offering.pending = [] ∧ offering.phase = .pack ∧
      ¬ (offering.phase = .pack ∧ offering.pkv = false ∧ offering.kb.toNat < offering.plen.toNat)) ∧
    (done.pending = [] ∧ done.phase ≠ .pack) := by decide

/-- SourceTurnPresentsItsSource: its three clauses. -/
theorem witness_source_turn :
    (({ idle with pending := [.source (uniformSource 9 9 white)] } : State).pending =
      .source (uniformSource 9 9 white) :: [] ∧ idle.busy = false) ∧
    (packing.busy = true ∧ packing.source = uniformSource 8 1 white) ∧
    uniformSource 9 9 white ≠ packing.source := by decide

/-- StepStopsOnlyForAMovingSource: a source that moves, and a step that does not stop. -/
theorem witness_moving_source :
    (∃ u rest, ({ packing with pending := [.source ⟨false, 0, 0, ⟨white, []⟩⟩] } : State).pending = u :: rest ∧
      ({ packing with pending := [.source ⟨false, 0, 0, ⟨white, []⟩⟩] } : State).movesSource u) ∧
    step { packing with pending := [.source ⟨false, 0, 0, ⟨white, []⟩⟩] } = .refused .sourceChangedWhileBusy ∧
    step { packing with pending := [.source packing.source] } = .next packing :=
  ⟨⟨_, _, rfl, by decide, _, rfl, by decide⟩, rfl, rfl⟩

/-- CompressorErrorComesFirst: an error with a byte, and an overflowing last byte in PACK. -/
theorem witness_compressor_error :
    ({ packing with pending := [.cz true 5 true true] } : State).busy = true ∧
    ({ packing with czn := 16382, pending := [.cz true 5 true false] } : State).busy = true ∧
    ({ packing with czn := 16382 } : State).czn.toNat = 16382 := by decide

/-- AccessesHaveNoSideEffectButStart, its clauses. -/
theorem witness_accesses :
    (Instr.rdArt 0xFFF 3 0).isRead = true ∧ (Instr.wrConfig 0 0x17F).isTransaction = true ∧
    (Instr.wrConfig 0 0x17F).isRead = false ∧ after (.wrConfig 0 0x17F) idle (fun t => t.thresh) = some 0x7F ∧
    after (.wrTargetW 0 9) idle (fun t => t.targetW) = some 9 := by decide

/-- WindowShowsOnlyTheCommittedArtifact: a read and a write of the window; the last byte of an artifact is shown and
the next index is not; a phase other than DONE. -/
theorem witness_window :
    (0x0400800000000#49).extractLsb' 46 2 = 1 ∧ (0x0400800000000#49).getLsbD 48 = false ∧
    (0x17FFC00000000#49).extractLsb' 46 2 = 1 ∧ (0x17FFC00000000#49).getLsbD 48 = true ∧
    done.phase = .done ∧ 4 * ((0x0400800000000#49).extractLsb' 34 12).toNat + 2 < 2 + done.czn.toNat ∧
    ¬ 4 * ((0x0400800000000#49).extractLsb' 34 12).toNat + 3 < 2 + done.czn.toNat ∧ draining.phase ≠ .done := by decide

/-- PseudoInstructionsWriteTheirRegisters at the largest threshold, ReadArtReadsTheArtifact at the whole buffer, and
WaitIdleEndsIdle, ending at once and after a turn. -/
theorem witness_host_lines :
    ((255 : HData).toNat < 256 ∧ (1 : HData).toNat < 2) ∧ (done.phase = .done ∧ 16384 ≤ 16384) ∧
    idle.busy = false ∧ (waitIdle 2 { packing with pending := [.cz false 0 false true] }).isSome = true := by decide

/-- StartDroppedIsSetWhileBusyAndClearedByAcceptance and CompressorFailureEndsTheConversion: both values of BUSY. -/
theorem witness_busy :
    packing.busy = true ∧ draining.busy = true ∧ idle.busy = false ∧ done.busy = false ∧ failed.busy = false := by decide

/-- StartRejectsABadSizeFirst and the first clause of HeaderIsTheTargetSize, at 0 and at 256. -/
theorem witness_bad_size :
    idle.busy = false ∧ Memory.wf idle.art ∧ badSize { idle with targetW := 0 } ∧ badSize { idle with targetH := 256 } ∧
    ¬ badSize { idle with targetW := 255, targetH := 1 } := by decide

/-- StartRejectsAnUnavailableSource: not ready, and a zero height. -/
theorem witness_bad_source :
    idle.busy = false ∧ ¬ badSize idle ∧ badSource { idle with source := { idle.source with ready := false } } ∧
    badSource { idle with source := uniformSource 5 0 white } := by decide

/-- StartBeginsAConversion and HeaderIsTheTargetSize, from IDLE and from DONE with the largest size. -/
theorem witness_start_begins :
    (idle.busy = false ∧ ¬ badSize idle ∧ ¬ badSource idle ∧ Memory.wf idle.art) ∧
    (({ done with targetW := 255, targetH := 255 } : State).busy = false ∧
      ¬ badSize { done with targetW := 255, targetH := 255 } ∧ ¬ badSource done ∧ Memory.wf done.art) := by decide

/-- FailIsTheOnlyWayToFail: a failure in each of its three ways, and one that stands. -/
theorem witness_failures :
    after .czFail packing (fun t => t.phase) = some .failed ∧
    after (.wrCmdStart 0 0) { idle with targetW := 256 } (fun t => t.phase) = some .failed ∧
    after (.czByte 5 true) packing (fun t => t.phase) = some .failed ∧
    after (.czByte 5 true) failed (fun t => t.phase) = some .failed := by decide

/-- ErrorCausesAreComplete, with each code after the step. -/
theorem witness_error_causes :
    packing.Inv ∧ failed.Inv ∧ idle.Inv ∧ after .czFail packing (fun t => t.errcode) = some .compressionError ∧
    after (.wrCmdStart 0 0) { idle with source := uniformSource 0 5 white } (fun t => t.errcode) = some .sourceUnavailable ∧
    after (.wrCmdStart 0 0) { idle with targetH := 300 } (fun t => t.errcode) = some .invalidParams :=
  ⟨inv_packing, inv_failed, inv_idle, by decide⟩

/-- The invariants in the state a failed START leads to from DONE: KB = 1 above PLEN = 0. -/
theorem inv_failed_start :
    ({ done with targetW := 0, phase := .failed, errcode := .invalidParams, plen := 0 } : State).Inv := by
  constructor <;> decide

/-- FailedStartKeepsKbAbovePlen. -/
theorem witness_failed_start :
    ({ done with targetW := 0 } : State).Inv ∧ done.phase = .done ∧ badSize { done with targetW := 0 } :=
  ⟨by constructor <;> decide, by decide⟩

/-- ClassificationIsStrictThenInverted and LuminanceIsTheExactWeightedSum: a luminance at the threshold, black, white. -/
theorem witness_luminance :
    luma1000 ⟨128, 128, 128, 0⟩ = 1000 * (128 : Byte).toNat ∧ luma1000 ⟨0, 0, 0, 1⟩ = 0 ∧ luma1000 white = 255000 := by decide

/-- KernelMeetsItsLaws: a uniform source, two images that differ out of range only, and a kernel that keeps uniform
sources. -/
theorem witness_kernel_laws :
    (packing.latched.lsw ≠ 0 ∧ packing.latched.lsh ≠ 0 ∧
      ∀ sx sy, sx < packing.latched.lsw.toNat → sy < packing.latched.lsh.toNat →
        sampleAt packing.source.image sx sy = white) ∧
    (∀ sx sy, sx < packing.latched.lsw.toNat → sy < packing.latched.lsh.toNat →
      sampleAt packing.source.image sx sy = sampleAt ⟨white, [(8, 0, default)]⟩ sx sy) ∧
    ∃ K : Kernel, ∀ samples c lsw lsh lw lh x y, samples ≠ [] → (∀ d ∈ samples, d = c) →
      K samples lsw lsh lw lh x y = c := by
  refine ⟨⟨by decide, by decide, fun _ _ _ _ => rfl⟩, ?_, fun samples _ _ _ _ _ _ => samples.headD default, ?_⟩
  · intro sx sy hx hy
    have : sx < 8 := hx
    have hn : ¬ 8 = sx := by omega
    simp [sampleAt, packing, idle, uniformSource, hn]
  · intro samples c lsw lsh lw lh x y hne h
    cases samples with
    | nil => exact absurd rfl hne
    | cons d ds => exact h d (by simp)

/-- The rows of an image of width `w`, one after the other. -/
theorem rows_getD (f : Nat → Nat → Rgba) (w h x y : Nat) (hx : x < w) (hy : y < h) (base : Nat) :
    ((List.range' base h).flatMap fun sy => (List.range w).map fun sx => f sx sy).getD (y * w + x) default =
      f x (base + y) := by
  induction h generalizing base y with
  | zero => omega
  | succ h ih =>
    rw [List.range'_succ, List.flatMap_cons]
    cases y with
    | zero => simp [List.getD, List.getElem?_append_left, hx]
    | succ y =>
      have e : (y + 1) * w + x = w + (y * w + x) := by ring
      have := ih y (by omega) (base + 1)
      simp only [List.getD] at this ⊢
      rw [e, List.getElem?_append_right (by simp), List.length_map, List.length_range, Nat.add_sub_cancel_left, this]
      congr 1
      omega

/-- UnitScaleIdentitySurvivesTheUniformLaw. -/
theorem witness_unit_scale : UnitScaleIdentity unitKernel := by
  intro img w h x y hx hy
  have := rows_getD (fun sx sy => sampleAt img sx sy) w.toNat h.toNat x y hx hy 0
  simpa [unitKernel, inRangeSamples, List.range_eq_range', Nat.mod_eq_of_lt (show w.toNat < 65536 by omega)] using this

/-- PackedLengthIsTheRoundedUpEighth and LastByteIsPaddedInTheLowBits, at both ends. -/
theorem witness_sizes : 1 ≤ (1 : Byte).toNat ∧ 1 ≤ (255 : Byte).toNat ∧ packedLength 1 1 = 1 ∧
    packedLength 255 255 = 8129 := by decide

/-- PackedByteIsMostSignificantFirst: the first and the last bit. -/
theorem witness_bits : 0 < 8 ∧ 7 < 8 ∧ (packByte 9 (fun _ => true) 1).getLsbD (7 - 0) = true ∧
    (packByte 9 (fun _ => true) 1).getLsbD (7 - 7) = false := by decide

/-- ProduceOffersTheNextPackedByte and UniformSourcePacksUniformly. -/
theorem witness_produce :
    packing.Inv ∧ packing.phase = .pack ∧ packing.pkv = false ∧ packing.kb.toNat < packing.plen.toNat ∧
    ∀ sx sy, sx < packing.latched.lsw.toNat → sy < packing.latched.lsh.toNat →
      sampleAt packing.source.image sx sy = white :=
  ⟨inv_packing, by decide, by decide, by decide, fun _ _ _ _ => rfl⟩

/-- TransferTakesTheOffer, OfferStandsUntilTakenOrWithdrawn and DisabledTurnsPass: an offer, taken, standing, withdrawn,
and no offer. -/
theorem witness_offer :
    offering.Inv ∧ offering.pkv = true ∧ draining.pkv = false ∧
    after .produce offering (fun t => (t.phase, t.pkv)) = some (.pack, true) ∧
    after .czFail offering (fun t => (t.phase, t.pkv)) = some (.failed, false) ∧
    after .pkXfer offering (fun t => t.kb) = some 1 ∧
    ¬ (offering.phase = .pack ∧ offering.pkv = false ∧ offering.kb.toNat < offering.plen.toNat) :=
  ⟨inv_offering, by decide⟩

/-- PackedBitmapReadsBack, at the last pixel. -/
theorem witness_reads_back :
    done.Inv ∧ done.phase = .done ∧ 7 < (Memory.read done.art 0).toNat * (Memory.read done.art 1).toNat :=
  ⟨inv_done, by decide⟩

/-- CompressedByteIsStoredOrFails: each clause, on both sides of the overflow. -/
theorem witness_compressed_byte :
    (full.busy = true ∧ full.czn.toNat = 16382 ∧ Memory.wf full.art) ∧
    (nearlyFull.busy = true ∧ nearlyFull.czn.toNat < 16382 ∧ nearlyFull.phase = .drain ∧ Memory.wf nearlyFull.art) ∧
    (packing.busy = true ∧ packing.czn.toNat < 16382 ∧ packing.phase = .pack ∧ Memory.wf packing.art) ∧
    (done.busy = false ∧ done.czn.toNat ≤ 16382 ∧ Memory.wf done.art) := by decide

/-- CommitHappensInDrainAfterAByte, at the largest artifact. -/
theorem witness_commit :
    nearlyFull.Inv ∧ nearlyFull.phase ≠ .done ∧ after (.czByte 0xAB true) nearlyFull (fun t => t.phase) = some .done :=
  ⟨inv_nearlyFull, by decide⟩

/-- CommittedArtifactDecompressesToTheBitmap: the whole of Scenario A, with the environment's compressor. -/
theorem witness_committed_artifact :
    almostDone.Inv ∧ almostDone.StreamInv ∧ almostDone.phase = .drain ∧
    exec (.czByte 0 true) almostDone = .next done ∧ done.phase = .done ∧ done.compressorKept (fun _ => some [0xFF]) :=
  ⟨inv_almostDone, streams_almostDone, rfl, rfl, rfl, by decide, by decide⟩

/-- ReadsAfterReset. -/
theorem witness_after_reset : ∃ t, exec .reset done = .next t := ⟨_, rfl⟩

/-- PhaseTransitionTableIsComplete: an invariant state for each row's condition. -/
theorem witness_phase_rows :
    (packing.Inv ∧ packing.phase = .pack) ∧ (offering.Inv ∧ offering.pkv = true ∧ offering.pkl = true) ∧
    (draining.Inv ∧ draining.czn.toNat ≠ 16382) ∧ (full.Inv ∧ full.busy = true ∧ full.czn.toNat = 16382) ∧
    (failed.Inv ∧ failed.busy = false) ∧ (idle.Inv ∧ ¬ badSize idle ∧ ¬ badSource idle) ∧ done.Inv :=
  ⟨⟨inv_packing, rfl⟩, ⟨inv_offering, rfl, rfl⟩, ⟨inv_draining, by decide⟩, ⟨inv_full, by decide, by decide⟩,
    ⟨inv_failed, by decide⟩, ⟨inv_idle, by decide, by decide⟩, inv_done⟩

/-- EachRegisterHasItsOwnWriters and LatchedParametersAreImmutable: instructions that change the registers named and the
streams. -/
theorem witness_writers :
    after (.wrCmdStart 0 0) idle (fun t => (t.plen, t.latched.lw, t.cmpStart)) = some (1, 8, true) ∧
    after (.czByte 5 false) packing (fun t => (t.czn, Memory.read t.art 2)) = some (1, 5) ∧
    after .pkXfer offering (fun t => (t.kb, t.pkv, t.phase, t.streams.taken)) = some (1, false, .drain, [(0xFF, true)]) ∧
    after (.czByte 5 false) packing (fun t => t.streams.sent) = some [5] ∧
    after .produce packing (fun t => (t.pkv, t.pkd, t.pkl)) = some (true, 0xFF, true) ∧
    Instr.produce.isTransaction = false ∧ Instr.produce ≠ .reset := by decide

/-- CommittedArtifactStaysUntilStartOrReset, both phases. -/
theorem witness_artifact_stays :
    done.Inv ∧ done.phase = .done ∧ failed.Inv ∧ failed.phase = .failed ∧ Instr.czFail ≠ .reset ∧ ∀ lo hi, Instr.czFail ≠ .wrCmdStart lo hi :=
  ⟨inv_done, rfl, inv_failed, rfl, by decide, by simp⟩

/-- EqualBuffersAreEqualData, between two ways to write one buffer. -/
theorem witness_equal_buffers :
    Memory.wf (Memory.write (Memory.write [] 1 7) 0 8) ∧ Memory.wf (Memory.write (Memory.write [] 0 8) 1 7) := by decide

/-- EveryStepKeepsTheInvariants and EveryStepKeepsTheStreams: a step of the sequencer and one of the compressor. -/
theorem witness_steps :
    packing.Inv ∧ packing.StreamInv ∧ (∃ t, step packing = .next t) ∧
    (∃ t, step { almostDone with pending := [.cz true 0 true false] } = .next t) ∧
    done.StreamInv ∧ offering.StreamInv :=
  ⟨inv_packing, streams_packing, ⟨_, rfl⟩, ⟨_, rfl⟩, streams_done, streams_offering⟩

/-- LiveCompressorReceivesThePackedBitmap. -/
theorem witness_live_compressor :
    ({ packing with pending := liveTurns 1 } : State).Inv ∧ ({ packing with pending := liveTurns 1 } : State).StreamInv ∧
    packing.phase = .pack ∧ packing.kb = 0 ∧ packing.pkv = false ∧
    ({ packing with pending := liveTurns 1 } : State).pending = liveTurns packing.plen.toNat ++ [] :=
  ⟨by constructor <;> decide, by constructor <;> decide, rfl, rfl, rfl, rfl⟩

/-- DeliveredStreamCommitsTheArtifact, with the bytes of L1-1 all in DRAIN, and with the last of them only. -/
theorem witness_delivered_stream :
    (({ draining with pending := czTurns [0x78, 0x9C, 0xFB, 0x0F, 0, 1, 0, 1, 0] } : State).Inv ∧
      draining.phase = .drain ∧ [0x78, 0x9C, 0xFB, 0x0F, 0, 1, 0, 1, 0] ≠ ([] : List Byte) ∧
      draining.czn.toNat + 9 ≤ 16382 ∧
      ({ draining with pending := czTurns [0x78, 0x9C, 0xFB, 0x0F, 0, 1, 0, 1, 0] } : State).pending =
        czTurns [0x78, 0x9C, 0xFB, 0x0F, 0, 1, 0, 1, 0] ++ []) ∧
    (({ almostDone with pending := czTurns [0] } : State).Inv ∧ almostDone.phase = .drain ∧
      almostDone.czn.toNat + 1 ≤ 16382 ∧ ({ almostDone with pending := czTurns [0] } : State).pending = czTurns [0] ++ []) :=
  ⟨⟨by constructor <;> decide, rfl, by decide, by decide, rfl⟩, by constructor <;> decide, rfl, by decide, rfl⟩

end Sys2Proof.Tests
end

namespace Sys2Proof.Machine

/-! ## The turn that waits, and the word that is placed (`00_scope.md` R5, R6) -/

/-- A turn that names an instruction runs it: it is neither a turn of the source nor one of an idle CZ port. -/
theorem runTurn_of_instr {u : Turn} {i : Instr} (hu : u.instr = some i) (s : State) : runTurn u s = exec i s := by
  rcases runTurn_cases u s with ⟨src, rfl, -⟩ | ⟨j, hj, hrun⟩ | ⟨hnone, -, -⟩
  · exact absurd hu (by simp [Turn.instr])
  · rwa [Option.some.inj (hj.symm.trans hu)] at hrun
  · exact absurd (hu.symm.trans hnone) (by simp)

/-- The first waiting turn is the one the step runs, from the state `beginStep` leaves. -/
theorem step_of_pending_cons {s : State} {u : Turn} {rest : List Turn} (hp : s.pending = u :: rest) :
    step s = runTurn u (s.beginStep rest) := by
  simp only [step, hp]

theorem step_of_waiting_instr {s : State} {u : Turn} {rest : List Turn} {i : Instr}
    (hp : s.pending = u :: rest) (hu : u.instr = some i) : step s = exec i (s.beginStep rest) :=
  (step_of_pending_cons hp).trans (runTurn_of_instr hu _)

/-- Settles O5: a transaction word is the case of a turn that names the instruction it decodes to. -/
theorem stepRunsTheWaitingTurn : Obligations.StepRunsTheWaitingTurn :=
  fun _ _ => ⟨fun _ hp => step_of_waiting_instr hp rfl, fun _ _ hp hu => step_of_waiting_instr hp hu⟩

/-- The decoder accepts just the numbers below `2 ^ 49`, the ones the port can carry (R51, R80). -/
theorem decodeTableWord_eq_some_iff (nbits w : Nat) (i : Instr) :
    decodeTableWord nbits w = some i ↔ w % 2 ^ nbits < 2 ^ 49 ∧ decode (BitVec.ofNat 49 (w % 2 ^ nbits)) = i := by
  unfold decodeTableWord decodeNumber
  by_cases hw : w % 2 ^ nbits < 2 ^ 49
  · simp only [hw, ↓reduceIte, Option.some.injEq, true_and]
  · simp only [hw, ↓reduceIte, reduceCtorEq, false_and]

/-- Settles O6: a word that decodes is below `2 ^ 49`, so placing it makes it the first waiting turn, which the step
takes off again. -/
theorem placedWordRunsNext : Obligations.PlacedWordRunsNext := by
  intro s nbits w i hdec
  obtain ⟨hw, rfl⟩ := (decodeTableWord_eq_some_iff nbits w i).mp hdec
  rw [State.withFetchWord_eq s nbits w hw]
  exact step_of_waiting_instr rfl rfl

end Sys2Proof.Machine

namespace Sys2Proof.Machine

/-! ## What one instruction can do

`Effect s i t` says that instruction `i` may take `s` to `t`, one constructor for each way it can end and each with the
guard it ends under. `effect_of_exec` is the inversion of `exec`: the frame (O49), the latches (O50) and the invariants
(O54) are case splits on it. -/

/-- The ways an instruction ends. -/
inductive Effect (s : State) : Instr → State → Prop
  /-- A read answers and changes nothing else (R70). -/
  | read (i : Instr) (v : HData) (hread : i.isRead = true) : Effect s i (s.respond v)
  /-- The instruction changes nothing: a write without effect, or a turn that is not enabled (log 2). -/
  | pass (i : Instr) (hpass : exec i s = .next s) : Effect s i s
  | targetW (lo : BitVec 2) (wd : HData) : Effect s (.wrTargetW lo wd) { s with targetW := fieldDim wd }
  | targetH (lo : BitVec 2) (wd : HData) : Effect s (.wrTargetH lo wd) { s with targetH := fieldDim wd }
  | config (lo : BitVec 2) (wd : HData) :
      Effect s (.wrConfig lo wd) { s with thresh := fieldThresh wd, invert := fieldInvert wd }
  | startDropped (lo : BitVec 2) (hi : BitVec 28) (hbusy : s.busy = true) :
      Effect s (.wrCmdStart lo hi) { s with dropped := true }
  | startBadSize (lo : BitVec 2) (hi : BitVec 28) (hbusy : s.busy = false)
      (hsize : validParams s.targetW s.targetH = false) :
      Effect s (.wrCmdStart lo hi) (({ s.acceptStart with plen := 0 } : State).fail .invalidParams)
  | startBadSource (lo : BitVec 2) (hi : BitVec 28) (hbusy : s.busy = false)
      (hsize : validParams s.targetW s.targetH = true) (hsource : s.source.available = false) :
      Effect s (.wrCmdStart lo hi) (({ s.acceptStart with plen := 0 } : State).fail .sourceUnavailable)
  | startBegins (lo : BitVec 2) (hi : BitVec 28) (hbusy : s.busy = false)
      (hsize : validParams s.targetW s.targetH = true) (hsource : s.source.available = true) :
      Effect s (.wrCmdStart lo hi) s.acceptStart.beginConversion
  | offer (hphase : s.phase = .pack) (hpkv : s.pkv = false) (hkb : s.kb.toNat < s.plen.toNat) :
      Effect s .produce s.offerNext
  | take (hpkv : s.pkv = true) (hpkl : s.pkl = false) : Effect s .pkXfer s.deliver.endOffer
  | takeLast (hpkv : s.pkv = true) (hpkl : s.pkl = true) : Effect s .pkXfer s.deliver.endOffer.enterDrain
  | overflow (d : Byte) (last : Bool) (hbusy : s.busy = true) (hczn : Config.czMax ≤ s.czn.toNat) :
      Effect s (.czByte d last) (s.fail .compressionError)
  | store (d : Byte) (hbusy : s.busy = true) (hczn : s.czn.toNat < Config.czMax) :
      Effect s (.czByte d false) (s.storeCz d)
  | storeEarlyLast (d : Byte) (hphase : s.phase = .pack) (hczn : s.czn.toNat < Config.czMax) :
      Effect s (.czByte d true) ((s.storeCz d).fail .compressionError)
  | storeLast (d : Byte) (hphase : s.phase = .drain) (hczn : s.czn.toNat < Config.czMax) :
      Effect s (.czByte d true) (s.storeCz d).commit
  | czFail (hbusy : s.busy = true) : Effect s .czFail (s.fail .compressionError)
  | reset : Effect s .reset s.doReset

theorem effect_start (lo : BitVec 2) (hi : BitVec 28) (s : State) : Effect s (.wrCmdStart lo hi) s.start := by
  rcases s.start_cases with ⟨hb, e⟩ | ⟨hb, hv, e⟩ | ⟨hb, hv, ha, e⟩ | ⟨hb, hv, ha, e⟩ <;> rw [e]
  · exact .startDropped lo hi hb
  · exact .startBadSize lo hi hb hv
  · exact .startBadSource lo hi hb hv ha
  · exact .startBegins lo hi hb hv ha

theorem effect_produce {s t : State} (h : exec .produce s = .next t) : Effect s .produce t := by
  obtain rfl : (if s.produceEnabled then s.offerNext else s) = t := Host.Outcome.next.inj h
  by_cases he : s.produceEnabled = true
  · obtain ⟨hphase, hpkv, hkb⟩ := s.produceEnabled_iff.mp he
    rw [if_pos he]
    exact .offer hphase hpkv hkb
  · rw [if_neg he] at h ⊢
    exact .pass _ h

theorem effect_pkXfer {s t : State} (h : exec .pkXfer s = .next t) : Effect s .pkXfer t := by
  obtain rfl : (if s.pkv then s.takeOffer else s) = t := Host.Outcome.next.inj h
  by_cases hpkv : s.pkv = true
  · rw [if_pos hpkv]
    rcases s.takeOffer_cases with ⟨hpkl, e⟩ | ⟨hpkl, e⟩ <;> rw [e]
    · exact .take hpkv hpkl
    · exact .takeLast hpkv hpkl
  · rw [if_neg hpkv] at h ⊢
    exact .pass _ h

theorem effect_czByte (d : Byte) (last : Bool) (s : State) : Effect s (.czByte d last) (s.czByte d last) := by
  rcases s.czByte_cases d last with
    ⟨-, e⟩ | ⟨hb, hc, e⟩ | ⟨hb, hc, rfl, e⟩ | ⟨hp, hc, rfl, e⟩ | ⟨hp, hc, rfl, e⟩ <;> rw [e]
  · exact .pass _ (congrArg Host.Outcome.next e)
  · exact .overflow d last hb hc
  · exact .store d hb hc
  · exact .storeEarlyLast d hp hc
  · exact .storeLast d hp hc

theorem effect_czFail {s t : State} (h : exec .czFail s = .next t) : Effect s .czFail t := by
  obtain rfl : (if s.busy then s.fail .compressionError else s) = t := Host.Outcome.next.inj h
  by_cases hb : s.busy = true
  · rw [if_pos hb]
    exact .czFail hb
  · rw [if_neg hb] at h ⊢
    exact .pass _ h

/-- The inversion of `exec`. -/
theorem effect_of_exec {i : Instr} {s t : State} (h : exec i s = .next t) : Effect s i t := by
  cases i with
  | wrCmdStart lo hi => cases h; exact effect_start lo hi s
  | wrTargetW lo wd => cases h; exact .targetW lo wd
  | wrTargetH lo wd => cases h; exact .targetH lo wd
  | wrConfig lo wd => cases h; exact .config lo wd
  | produce => exact effect_produce h
  | pkXfer => exact effect_pkXfer h
  | czByte d last => cases h; exact effect_czByte d last s
  | czFail => exact effect_czFail h
  | reset => cases h; exact .reset
  | rdCmd | rdStatus | rdTargetW | rdTargetH | rdConfig | rdSrcDim | rdPackedLen | rdArtLen | rdArt | rdRsv =>
    cases h; exact .read _ _ rfl
  | wrCmdNop | wrCmdRsv | wrStatus | wrSrcDim | wrPackedLen | wrArtLen | wrArt | wrRsv =>
    cases h; exact .pass _ rfl

/-! ## The invariants of `10_state.md` R50, operation by operation -/

section InvariantPerOperation

variable {s : State}

/-- An idle block with its counters at 0 meets the invariants, whatever else it holds. -/
theorem inv_of_idle (hphase : s.phase = .idle) (herr : s.errcode = .none) (hkb : s.kb = 0) (hplen : s.plen = 0)
    (hczn : s.czn = 0) (hpkv : s.pkv = false) (hart : Memory.wf s.art) : s.Inv := by
  constructor
  case artWf => exact hart
  all_goals simp [State.busy, *]

theorem State.Inv.doReset (s : State) : s.doReset.Inv :=
  inv_of_idle rfl rfl rfl rfl rfl rfl (Memory.wf_ofCells _)

theorem State.Inv.busy_errcode (h : s.Inv) (hb : s.busy = true) : s.errcode = .none := by
  rw [h.errcode]
  rcases s.busy_iff.mp hb with hp | hp <;> simp [hp]

theorem State.Inv.beginStep (h : s.Inv) (rest : List Turn) : (s.beginStep rest).Inv := { h with }

theorem State.Inv.respond (h : s.Inv) (v : HData) : (s.respond v).Inv := { h with }

/-- No invariant speaks of the host-visible registers or of DROPPED. -/
theorem State.Inv.setHostRegisters (h : s.Inv) (tw th : BitVec 16) (thr : Byte) (inv dropped : Bool) :
    ({ s with targetW := tw, targetH := th, thresh := thr, invert := inv, dropped := dropped } : State).Inv :=
  { h with }

/-- The source may change while no conversion runs (R241). -/
theorem State.Inv.setSource (h : s.Inv) (hb : s.busy = false) (src : Source) :
    ({ s with source := src } : State).Inv :=
  { h with sourceHeld := fun hb' => absurd (hb.symm.trans hb') (by decide) }

/-- A failure of a running conversion keeps KB and PLEN, which are still in order (R203). -/
theorem State.Inv.fail_compressionError (h : s.Inv) (hb : s.busy = true) : (s.fail .compressionError).Inv :=
  { h with
    kbWithinPlen := fun _ => h.kbWithinPlen (.inl (h.busy_errcode hb))
    startFailed := by simp
    packing := by simp
    offerInPack := by simp
    offerLast := by simp
    drained := by simp
    running := by simp
    committed := by simp
    errcode := by simp
    sourceHeld := by simp [State.busy] }

/-- A START that fails leaves PLEN at 0 and KB as it was (R101; log 19). -/
theorem State.Inv.failStart (h : s.Inv) {code : ErrCode} (hcode : code = .invalidParams ∨ code = .sourceUnavailable) :
    (({ s.acceptStart with plen := 0 } : State).fail code).Inv :=
  { h with
    kbWithinPlen := by rcases hcode with rfl | rfl <;> simp
    startFailed := fun _ => rfl
    plenBound := by simp
    packing := by simp
    offerInPack := by simp
    offerLast := by simp
    drained := by simp
    running := by simp
    committed := by simp
    errcode := by rcases hcode with rfl | rfl <;> simp
    sourceHeld := by simp [State.busy] }

theorem packedLength_pos {lw lh : Byte} (hw : 1 ≤ lw.toNat) (hh : 1 ≤ lh.toNat) : 1 ≤ packedLength lw lh := by
  have : 1 * 1 ≤ lw.toNat * lh.toNat := Nat.mul_le_mul hw hh
  unfold packedLength
  omega

theorem packedLength_le_plenMax (lw lh : Byte) : packedLength lw lh ≤ Config.plenMax := by
  have : lw.toNat * lh.toNat ≤ 255 * 255 := Nat.mul_le_mul (by omega) (by omega)
  unfold packedLength
  simp only [plenMax_eq]
  omega

/-- PLEN holds the whole packed length, which fits its 14 bits (R48, R160). -/
theorem State.beginConversion_plen_toNat (s : State) :
    s.beginConversion.plen.toNat = packedLength s.latchedNow.lw s.latchedNow.lh := by
  have hle := packedLength_le_plenMax s.latchedNow.lw s.latchedNow.lh
  rw [plenMax_eq] at hle
  rw [State.beginConversion_plen, BitVec.toNat_ofNat, Nat.mod_eq_of_lt (by omega)]

theorem Source.available_iff (src : Source) :
    src.available = true ↔ src.ready = true ∧ src.width ≠ 0 ∧ src.height ≠ 0 := by
  simp [Source.available, and_assoc]

/-- A conversion begins with a header, nothing taken and at least one byte to take (R101, R180). -/
theorem State.Inv.beginConversion (hart : Memory.wf s.art) (herr : s.errcode = .none)
    (hsize : validParams s.targetW s.targetH = true) (hsource : s.source.available = true) :
    s.beginConversion.Inv := by
  obtain ⟨⟨hw1, hw2⟩, hh1, hh2⟩ := (validParams_iff _ _).mp hsize
  obtain ⟨hready, hwidth, hheight⟩ := s.source.available_iff.mp hsource
  have hlw : 1 ≤ s.latchedNow.lw.toNat := (lowByte_toNat _ hw2).symm ▸ hw1
  have hlh : 1 ≤ s.latchedNow.lh.toNat := (lowByte_toNat _ hh2).symm ▸ hh1
  have hplen := s.beginConversion_plen_toNat
  have hpos : 1 ≤ s.beginConversion.plen.toNat := hplen ▸ packedLength_pos hlw hlh
  have hwf0 := Memory.wf_write s.art 0 s.latchedNow.lw (by simp) hart
  exact {
    kbWithinPlen := fun _ => Nat.zero_le _
    startFailed := by simp [herr]
    kbBound := Nat.zero_le _
    plenBound := hplen ▸ packedLength_le_plenMax _ _
    packing := fun _ => hpos
    offerInPack := fun _ => rfl
    offerLast := by simp
    drained := by simp
    running := fun _ => ⟨hlw, hlh, hplen,
      (Memory.read_write_other _ _ _ _ (by decide)).trans (Memory.read_write_same _ _ _ hart.1),
      Memory.read_write_same _ _ _ hwf0.1⟩
    cznBound := Nat.zero_le _
    committed := by simp
    errcode := by simp [herr]
    sourceHeld := fun _ => ⟨hready, rfl, rfl, hwidth, hheight⟩
    artWf := Memory.wf_write _ 1 _ (by simp) hwf0 }

theorem State.Inv.offerNext (h : s.Inv) (hphase : s.phase = .pack) : s.offerNext.Inv :=
  { h with
    offerInPack := fun _ => hphase
    offerLast := fun _ => rfl }

/-- KB counts a delivery without wrapping. -/
theorem State.Inv.deliver_kb_toNat (h : s.Inv) : s.deliver.kb.toNat = s.kb.toNat + 1 := by
  have hkb := h.kbBound
  rw [plenMax_eq] at hkb
  exact succ_toNat s.kb (by omega)

/-- A byte that is not the last leaves at least one more to take (R166). -/
theorem State.Inv.deliver_notLast (h : s.Inv) (hpkv : s.pkv = true) (hpkl : s.pkl = false) :
    s.deliver.endOffer.Inv := by
  have hphase := h.offerInPack hpkv
  have hlt : s.kb.toNat < s.plen.toNat := h.packing hphase
  have hne : s.kb.toNat + 1 ≠ s.plen.toNat := by simpa [hpkl] using h.offerLast hpkv
  have hkb := h.deliver_kb_toNat
  have hplen := h.plenBound
  exact { h with
    kbWithinPlen := fun _ => show s.deliver.kb.toNat ≤ s.plen.toNat by omega
    kbBound := show s.deliver.kb.toNat ≤ _ by omega
    packing := fun _ => show s.deliver.kb.toNat < s.plen.toNat by omega
    offerInPack := by simp
    offerLast := by simp
    drained := by simp [hphase] }

/-- The last byte brings KB to PLEN, which is what DRAIN asks (R166). -/
theorem State.Inv.deliver_last (h : s.Inv) (hpkv : s.pkv = true) (hpkl : s.pkl = true) :
    s.deliver.endOffer.enterDrain.Inv := by
  have hphase := h.offerInPack hpkv
  have hlast : s.kb.toNat + 1 = s.plen.toNat := by simpa [hpkl] using h.offerLast hpkv
  have hkb : s.deliver.kb = s.plen := BitVec.eq_of_toNat_eq (h.deliver_kb_toNat.trans hlast)
  exact { h with
    kbWithinPlen := fun _ => (congrArg BitVec.toNat hkb).le
    kbBound := (congrArg BitVec.toNat hkb).trans_le h.plenBound
    packing := by simp
    offerInPack := by simp
    offerLast := by simp
    drained := fun _ => hkb
    running := fun _ => h.running (.inl hphase)
    committed := by simp
    errcode := by simpa [hphase] using h.errcode
    sourceHeld := fun _ => h.sourceHeld (s.busy_iff.mpr (.inl hphase)) }

/-- CZN counts a stored byte without wrapping. -/
theorem State.storeCz_czn_toNat (d : Byte) (hczn : s.czn.toNat < Config.czMax) :
    (s.storeCz d).czn.toNat = s.czn.toNat + 1 := by
  rw [czMax_eq] at hczn
  exact succ_toNat s.czn (by omega)

/-- A stored byte lands above the header and inside ART (R182). -/
theorem State.Inv.storeCz (h : s.Inv) (d : Byte) (hczn : s.czn.toNat < Config.czMax) : (s.storeCz d).Inv := by
  have hn := State.storeCz_czn_toNat d hczn
  have hindex : s.czIndex = 2 + s.czn.toNat := rfl
  rw [czMax_eq] at hczn
  exact { h with
    running := fun hp => by
      obtain ⟨hlw, hlh, hplen, h0, h1⟩ := h.running hp
      refine ⟨hlw, hlh, hplen, ?_, ?_⟩ <;> rw [s.storeCz_read d _ h.artWf, if_neg (by omega)]
      · exact h0
      · exact h1
    cznBound := by rw [hn, czMax_eq]; omega
    committed := fun _ => by omega
    artWf := Memory.wf_write _ _ _ (by rw [artCapacity_eq]; omega) h.artWf }

/-- A commit from DRAIN after a stored byte (R183). -/
theorem State.Inv.commit (h : s.Inv) (hphase : s.phase = .drain) (hczn : 1 ≤ s.czn.toNat) : s.commit.Inv :=
  have hnotOffering : s.pkv ≠ true := fun hpkv => by simpa [hphase] using h.offerInPack hpkv
  { h with
    packing := by simp
    offerInPack := fun hpkv => absurd hpkv hnotOffering
    drained := fun _ => h.drained (.inl hphase)
    running := fun _ => h.running (.inr (.inl hphase))
    committed := fun _ => hczn
    errcode := by simpa [hphase] using h.errcode
    sourceHeld := by simp [State.busy] }

end InvariantPerOperation

/-- Every way an instruction ends keeps the invariants. -/
theorem Effect.keeps_inv {i : Instr} {s t : State} (he : Effect s i t) (h : s.Inv) : t.Inv := by
  cases he with
  | read v => exact h.respond _
  | pass => exact h
  | targetW | targetH | config | startDropped => exact h.setHostRegisters ..
  | startBadSize => exact h.failStart (.inl rfl)
  | startBadSource => exact h.failStart (.inr rfl)
  | startBegins lo hi hb hsize hsource => exact State.Inv.beginConversion h.artWf rfl hsize hsource
  | offer hphase => exact h.offerNext hphase
  | take hpkv hpkl => exact h.deliver_notLast hpkv hpkl
  | takeLast hpkv hpkl => exact h.deliver_last hpkv hpkl
  | overflow d last hb => exact h.fail_compressionError hb
  | store d hb hczn => exact h.storeCz d hczn
  | storeEarlyLast d hphase hczn =>
    exact (h.storeCz d hczn).fail_compressionError ((s.storeCz d).busy_iff.mpr (.inl hphase))
  | storeLast d hphase hczn =>
    exact (h.storeCz d hczn).commit hphase (by rw [State.storeCz_czn_toNat d hczn]; omega)
  | czFail hb => exact h.fail_compressionError hb
  | reset => exact State.Inv.doReset s

/-- Settles O54: a step is an instruction, a turn that changes nothing, or an idle block's new source. -/
theorem everyStepKeepsTheInvariants : Obligations.EveryStepKeepsTheInvariants := by
  intro s t h hstep
  rcases step_cases hstep with
    ⟨-, hexec⟩ | ⟨u, rest, i, -, -, hexec⟩ | ⟨u, rest, -, rfl⟩ | ⟨src, rest, -, hb, rfl⟩
  · exact (effect_of_exec hexec).keeps_inv (h.beginStep [])
  · exact (effect_of_exec hexec).keeps_inv (h.beginStep rest)
  · exact h.beginStep rest
  · exact (h.beginStep rest).setSource hb src

/-- An idle block with no offer has no stream to speak of. -/
theorem streamInv_of_idle {s : State} (hphase : s.phase = .idle) (hpkv : s.pkv = false) : s.StreamInv := by
  constructor <;> simp [State.busy, *]

/-- Settles O53: the reset state is idle with every counter at 0 and no offer. -/
theorem invariantsHoldAtReset : Obligations.InvariantsHoldAtReset :=
  ⟨inv_of_idle rfl rfl rfl rfl rfl rfl reset_art_wf, streamInv_of_idle rfl rfl⟩

/-! ## The frame of the whole machine -/

/-- Settles O49: each way an instruction ends leaves the registers that are not its own, and the writes to ART name
their addresses. -/
theorem eachRegisterHasItsOwnWriters : Obligations.EachRegisterHasItsOwnWriters := by
  intro i s t h
  cases effect_of_exec h with
  | read _ v hread => simp [hread]
  | startBegins lo hi =>
    have hart (a : Nat) (hne : Memory.read s.acceptStart.beginConversion.art a ≠ Memory.read s.art a) :
        a = 0 ∨ a = 1 := by
      by_contra ha
      obtain ⟨h0, h1⟩ := not_or.mp ha
      refine hne ?_
      rw [State.beginConversion_art, Memory.read_write_other _ _ _ _ h1, Memory.read_write_other _ _ _ _ h0,
        State.acceptStart_art]
    simpa using hart
  | store d | storeEarlyLast d | storeLast d =>
    have hart (a : Nat) (hne : Memory.read (Memory.write s.art s.czIndex d) a ≠ Memory.read s.art a) :
        a = 2 + s.czn.toNat :=
      by_contra fun ha => hne (Memory.read_write_other _ _ _ _ ha)
    simpa using hart
  | pass | targetW | targetH | config | startDropped | startBadSize | startBadSource | offer | take | takeLast
    | overflow | czFail | reset => simp

/-! ## The latched parameters (`10_state.md` R36) -/

/-- R103's predicate is the one the statements write out. -/
theorem validParams_iff_not_badSize (s : State) : validParams s.targetW s.targetH = true ↔ ¬ badSize s := by
  rw [validParams_iff]
  simp only [badSize]
  omega

theorem available_iff_not_badSource (s : State) : s.source.available = true ↔ ¬ badSource s := by
  rw [Source.available_iff]
  simp [badSource, ← BitVec.toNat_inj]

theorem State.start_of_good {s : State} (hb : s.busy = false) (hsize : ¬ badSize s) (hsource : ¬ badSource s) :
    s.start = s.acceptStart.beginConversion := by
  simp [State.start, hb, (validParams_iff_not_badSize s).mpr hsize, (available_iff_not_badSource s).mpr hsource]

/-- A START that begins a conversion latches a size that fits the latches' eight bits. -/
theorem State.latchedNow_toNat_of_good {s : State} (hsize : ¬ badSize s) :
    s.latchedNow.lw.toNat = s.targetW.toNat ∧ s.latchedNow.lh.toNat = s.targetH.toNat := by
  obtain ⟨⟨-, hw⟩, -, hh⟩ := (validParams_iff _ _).mp ((validParams_iff_not_badSize s).mpr hsize)
  exact ⟨lowByte_toNat _ hw, lowByte_toNat _ hh⟩

/-- Only a reset and a START that begins a conversion write the latches. -/
theorem Effect.latched_writers {i : Instr} {s t : State} (he : Effect s i t) (hne : t.latched ≠ s.latched) :
    i = .reset ∨ (∃ lo hi, i = .wrCmdStart lo hi) ∧ s.busy = false ∧ t.phase = .pack := by
  cases he with
  | reset => exact .inl rfl
  | startBegins lo hi hb => exact .inr ⟨⟨lo, hi, rfl⟩, hb, rfl⟩
  | read | pass | targetW | targetH | config | startDropped | startBadSize | startBadSource | offer | take | takeLast
    | overflow | store | storeEarlyLast | storeLast | czFail => exact absurd rfl hne

/-- The state with other values in the host-visible registers. -/
def State.withParams (s : State) (tw th : BitVec 16) (thr : Byte) (inv : Bool) : State :=
  { s with targetW := tw, targetH := th, thresh := thr, invert := inv }

theorem State.czByte_withParams (s : State) (d : Byte) (last : Bool) (tw th : BitVec 16) (thr : Byte) (inv : Bool) :
    (s.withParams tw th thr inv).czByte d last = (s.czByte d last).withParams tw th thr inv := by
  simp only [State.czByte, apply_ite (fun u : State => u.withParams tw th thr inv)]
  rfl

theorem State.takeOffer_withParams (s : State) (tw th : BitVec 16) (thr : Byte) (inv : Bool) :
    (s.withParams tw th thr inv).takeOffer = s.takeOffer.withParams tw th thr inv := by
  simp only [State.takeOffer, apply_ite (fun u : State => u.withParams tw th thr inv)]
  rfl

/-- The internal operations but RESET commute with any change of the host-visible registers: neither their guards nor
their updates look at them. -/
theorem exec_withParams {i : Instr} {s t : State} (hinternal : i.isTransaction = false) (hreset : i ≠ .reset)
    (h : exec i s = .next t) (tw th : BitVec 16) (thr : Byte) (inv : Bool) :
    exec i (s.withParams tw th thr inv) = .next (t.withParams tw th thr inv) := by
  have push (c : Prop) [Decidable c] (u v : State) := apply_ite (fun w : State => w.withParams tw th thr inv) c u v
  cases i with
  | produce => cases h; exact congrArg Host.Outcome.next (push _ s.offerNext s).symm
  | pkXfer =>
    cases h
    rw [push, ← State.takeOffer_withParams]
    rfl
  | czByte d last => cases h; exact congrArg Host.Outcome.next (s.czByte_withParams ..)
  | czFail => cases h; exact congrArg Host.Outcome.next (push _ (s.fail .compressionError) s).symm
  | reset => exact absurd rfl hreset
  | _ => cases hinternal

/-- Settles O50: START latches the registers of its own step, the other steps keep the latches or clear them, and the
internal operations commute with `withParams`. -/
theorem latchedParametersAreImmutable : Obligations.LatchedParametersAreImmutable := by
  refine ⟨fun s lo hi hb hsize hsource => ?_, fun s t h => ?_, fun i s t h => (effect_of_exec h).latched_writers,
    fun i s t tw th thr inv hinternal hreset h => exec_withParams hinternal hreset h tw th thr inv⟩
  · obtain ⟨hlw, hlh⟩ := s.latchedNow_toNat_of_good hsize
    exact ⟨_, congrArg Host.Outcome.next (State.start_of_good hb hsize hsource), rfl, hlw, hlh, rfl, rfl, rfl, rfl⟩
  · cases h
    exact s.doReset_latched

/-! ## The artifact buffer as data -/

/-- A listed cell reads as its byte. -/
theorem Memory.read_cons_self (c : Host.Cell) (m : Memory) : Memory.read (c :: m) c.1 = c.2 := if_pos rfl

theorem Memory.read_cons_other (c : Host.Cell) (m : Memory) {a : Nat} (h : a ≠ c.1) :
    Memory.read (c :: m) a = Memory.read m a := if_neg h.symm

theorem Memory.of_wf_cons {c : Host.Cell} {m : Memory} (h : Memory.wf (c :: m)) :
    (∀ d ∈ m, c.1 < d.1) ∧ c.2 ≠ Config.unlistedByte ∧ Memory.wf m := by
  obtain ⟨hsorted, hcells⟩ := h
  obtain ⟨hhead, htail⟩ := List.pairwise_cons.mp hsorted
  exact ⟨hhead, (hcells c List.mem_cons_self).2, htail, fun d hd => hcells d (List.mem_cons_of_mem c hd)⟩

/-- At the address of its first cell a canonical buffer differs from one that lists only higher addresses. -/
theorem Memory.read_head_ne {c : Host.Cell} {m m' : Memory} (h : Memory.wf (c :: m)) (hbelow : ∀ d ∈ m', c.1 < d.1) :
    Memory.read (c :: m) c.1 ≠ Memory.read m' c.1 := by
  rw [Memory.read_cons_self, Memory.read_below m' c.1 hbelow]
  exact (Memory.of_wf_cons h).2.1

/-- Of two canonical buffers with the same bytes, neither lists an address below the other's first. -/
theorem Memory.head_le_of_read_eq {c d : Host.Cell} {m m' : Memory} (h : Memory.wf (c :: m))
    (h' : Memory.wf (d :: m')) (heq : ∀ a, Memory.read (c :: m) a = Memory.read (d :: m') a) : d.1 ≤ c.1 := by
  by_contra hlt
  refine Memory.read_head_ne h (fun e he => ?_) (heq c.1)
  rcases List.mem_cons.mp he with rfl | he
  · omega
  · exact (Nat.lt_of_not_le hlt).trans ((Memory.of_wf_cons h').1 e he)

/-- Settles O52: by induction on one buffer, equal bytes give equal first cells, and there both tails read as unlisted. -/
theorem equalBuffersAreEqualData : Obligations.EqualBuffersAreEqualData := by
  intro m
  induction m with
  | nil =>
    intro m' _ h' heq
    cases m' with
    | nil => rfl
    | cons d m' => exact absurd (heq d.1).symm (Memory.read_head_ne h' (by simp))
  | cons c m ih =>
    intro m' h h' heq
    cases m' with
    | nil => exact absurd (heq c.1) (Memory.read_head_ne h (by simp))
    | cons d m' =>
      have haddr : c.1 = d.1 :=
        (Memory.head_le_of_read_eq h' h fun a => (heq a).symm).antisymm (Memory.head_le_of_read_eq h h' heq)
      have hbyte : c.2 = d.2 := by
        rw [← Memory.read_cons_self c m, heq c.1, haddr, Memory.read_cons_self]
      obtain rfl : c = d := Prod.ext haddr hbyte
      obtain ⟨hbelow, -, hm⟩ := Memory.of_wf_cons h
      obtain ⟨hbelow', -, hm'⟩ := Memory.of_wf_cons h'
      refine congrArg (c :: ·) (ih m' hm hm' fun a => ?_)
      by_cases ha : a = c.1
      · rw [ha, Memory.read_below m c.1 hbelow, Memory.read_below m' c.1 hbelow']
      · rw [← Memory.read_cons_other c m ha, heq a, Memory.read_cons_other c m' ha]

/-! ## START_DROPPED and the source's turn -/

/-- STATUS[3] is DROPPED (R28, R88). -/
theorem State.statusWord_bit_dropped (s : State) : s.statusWord.getLsbD 3 = s.dropped := by
  simp only [State.statusWord, BitVec.getLsbD_append]
  simp

theorem State.start_dropped_of_idle {s : State} (hb : s.busy = false) : s.start.dropped = false := by
  rcases s.start_cases with ⟨hb', -⟩ | ⟨-, -, e⟩ | ⟨-, -, -, e⟩ | ⟨-, -, -, e⟩
  · exact absurd (hb.symm.trans hb') (by decide)
  all_goals (rw [e]; rfl)

/-- Settles O20: the first branch of START, and `acceptStart` in the others. -/
theorem startDroppedIsSetWhileBusyAndClearedByAcceptance :
    Obligations.StartDroppedIsSetWhileBusyAndClearedByAcceptance :=
  fun s _ _ _ _ => ⟨fun hb => congrArg Host.Outcome.next (if_pos hb),
    fun hb => ⟨s.start, rfl, State.start_dropped_of_idle hb⟩, ⟨_, rfl, s.statusWord_bit_dropped⟩⟩

/-- Settles O58: the step runs the source's turn, whose three cases are `present_cases`. -/
theorem sourceTurnPresentsItsSource : Obligations.SourceTurnPresentsItsSource := by
  intro s src rest hp
  have hstep : step s = (s.beginStep rest).present src := step_of_pending_cons hp
  have hbusy : (s.beginStep rest).busy = s.busy := rfl
  rw [hstep]
  rcases (s.beginStep rest).present_cases src with ⟨hb, hsrc, e⟩ | ⟨hb, hsrc, e⟩ | ⟨hb, e⟩ <;>
    rw [hbusy] at hb <;> rw [e]
  · exact ⟨fun h => absurd (h.symm.trans hb) (by decide), fun _ _ => rfl, fun _ hne => absurd hsrc hne⟩
  · exact ⟨fun h => absurd (h.symm.trans hb) (by decide), fun _ heq => absurd heq hsrc, fun _ _ => rfl⟩
  · exact ⟨fun _ => rfl, fun h => absurd (hb.symm.trans h) (by decide), fun h => absurd (hb.symm.trans h) (by decide)⟩

end Sys2Proof.Machine

namespace Sys2Proof.Machine

/-! ## What stops a step (`20_memory.md` R61, `30_encoding.md` R90) -/

/-- Every instruction has a next state: none faults (R61) and none is refused (log 5). -/
theorem exec_total (i : Instr) (s : State) : ∃ t, exec i s = .next t := by
  cases i with
  | _ => exact ⟨_, rfl⟩

/-- A turn is refused when it moves the source while BUSY = 1, and has a next state otherwise. -/
theorem runTurn_outcome (u : Turn) (s : State) :
    (s.movesSource u ∧ runTurn u s = .refused .sourceChangedWhileBusy) ∨
    (¬ s.movesSource u ∧ ∃ t, runTurn u s = .next t) := by
  rcases runTurn_cases u s with ⟨src, rfl, hrun⟩ | ⟨i, hi, hrun⟩ | ⟨-, hne, hrun⟩ <;> rw [hrun]
  · rcases s.present_cases src with ⟨-, hsame, e⟩ | ⟨hb, hne, e⟩ | ⟨hb, e⟩ <;> rw [e]
    · have hstays : ¬ s.movesSource (.source src) := by
        rintro ⟨-, _, ⟨⟩, hne⟩
        exact hne hsame
      exact .inr ⟨hstays, _, rfl⟩
    · exact .inl ⟨⟨hb, src, rfl, hne⟩, rfl⟩
    · exact .inr ⟨fun ⟨hb', _⟩ => absurd (hb.symm.trans hb') (by decide), _, rfl⟩
  · exact .inr ⟨fun ⟨_, src, hsrc, _⟩ => by simp [hsrc, Turn.instr] at hi, exec_total i s⟩
  · exact .inr ⟨fun ⟨_, src, hsrc, _⟩ => hne src hsrc, _, rfl⟩

/-- The same of a step: its first waiting turn decides. -/
theorem step_outcome (s : State) :
    ((∃ u rest, s.pending = u :: rest ∧ s.movesSource u) ∧ step s = .refused .sourceChangedWhileBusy) ∨
    ((¬ ∃ u rest, s.pending = u :: rest ∧ s.movesSource u) ∧ ∃ t, step s = .next t) := by
  cases hp : s.pending with
  | nil =>
    have hstep : step s = exec .produce (s.beginStep []) := by simp only [step, hp]
    exact .inr ⟨by simp, hstep ▸ exec_total ..⟩
  | cons u rest =>
    rw [step_of_pending_cons hp]
    rcases runTurn_outcome u (s.beginStep rest) with ⟨hmoves, e⟩ | ⟨hstays, e⟩
    · exact .inl ⟨⟨u, rest, rfl, hmoves⟩, e⟩
    · refine .inr ⟨?_, e⟩
      rintro ⟨_, _, heq, hmoves⟩
      exact hstays ((List.cons.inj heq).1 ▸ hmoves)

/-- Settles O8: the two outcomes of `step_outcome` exclude each other. -/
theorem stepStopsOnlyForAMovingSource : Obligations.StepStopsOnlyForAMovingSource := by
  intro s
  rcases step_outcome s with ⟨hmoves, e⟩ | ⟨hstays, t, e⟩ <;> rw [e]
  · exact ⟨iff_of_false (by simp) (not_not_intro hmoves), fun r hr => (Host.Outcome.refused.inj hr).symm⟩
  · exact ⟨iff_of_true ⟨t, rfl⟩ hstays, fun r hr => by cases hr⟩

/-! ## Reads and writes (`20_memory.md` R70) -/

/-- A read changes HRDATA alone, and the same read again answers the same. -/
theorem exec_read_repeats {i : Instr} (hread : i.isRead = true) (s : State) :
    ∃ v, exec i s = .next (s.respond v) ∧ exec i (s.respond v) = .next (s.respond v) := by
  cases i with
  | rdCmd | rdStatus | rdTargetW | rdTargetH | rdConfig | rdSrcDim | rdPackedLen | rdArtLen | rdArt | rdRsv =>
    exact ⟨_, rfl, rfl⟩
  | _ => cases hread

/-- Settles O12: a read repeats its answer, and each way a write ends is one `Effect`. -/
theorem accessesHaveNoSideEffectButStart : Obligations.AccessesHaveNoSideEffectButStart := by
  refine ⟨fun i s hread => exec_read_repeats hread s, fun i s t htrans hwrite h => ?_⟩
  cases effect_of_exec h with
  | read _ _ hread => exact absurd (hread.symm.trans hwrite) (by decide)
  | startDropped lo hi | startBadSize lo hi | startBadSource lo hi | startBegins lo hi => exact .inl ⟨lo, hi, rfl⟩
  | pass => exact .inr ⟨h, rfl, by simp⟩
  | targetW lo wd => exact .inr ⟨rfl, rfl, fun _ => ⟨lo, wd, rfl⟩, by simp⟩
  | targetH lo wd => exact .inr ⟨rfl, rfl, by simp, fun _ => ⟨lo, wd, rfl⟩, by simp⟩
  | config lo wd => exact .inr ⟨rfl, rfl, by simp, by simp, fun _ => ⟨lo, wd, rfl⟩⟩
  | offer | take | takeLast | overflow | store | storeEarlyLast | storeLast | czFail | reset => cases htrans

/-! ## The window (`20_memory.md` R62, R63) -/

/-- A window address is no register's: the top bits ADDR[15:14] of those are 0. -/
theorem ne_of_windowTop {w k : WordAddr} (hw : w.extractLsb' 12 2 = 1) (hk : k.extractLsb' 12 2 = 0) : w ≠ k := by
  rintro rfl
  exact absurd (hw.symm.trans hk) (by decide)

theorem ne_register_of_windowTop {w : WordAddr} (hw : w.extractLsb' 12 2 = 1) :
    w ≠ 0 ∧ w ≠ 1 ∧ w ≠ 2 ∧ w ≠ 3 ∧ w ≠ 4 ∧ w ≠ 5 ∧ w ≠ 6 ∧ w ≠ 7 := by
  refine ⟨?_, ?_, ?_, ?_, ?_, ?_, ?_, ?_⟩ <;> exact ne_of_windowTop hw (by decide)

theorem decodeRead_window {w : WordAddr} (hw : w.extractLsb' 12 2 = 1) (lo : BitVec 2) (wd : HData) :
    decodeRead w lo wd = .rdArt (w.extractLsb' 0 12) lo wd := by
  simp only [decodeRead, ne_register_of_windowTop hw, hw, ↓reduceIte]

theorem decodeWrite_window {w : WordAddr} (hw : w.extractLsb' 12 2 = 1) (lo : BitVec 2) (wd : HData) :
    decodeWrite w lo wd = .wrArt (w.extractLsb' 0 12) lo wd := by
  simp only [decodeWrite, ne_register_of_windowTop hw, hw, ↓reduceIte]

/-- A field of a field is a field of the word. -/
theorem extractLsb'_extractLsb' {w : Nat} (x : BitVec w) (start : Nat) {len start' len' : Nat}
    (hle : start' + len' ≤ len) :
    (x.extractLsb' start len).extractLsb' start' len' = x.extractLsb' (start + start') len' := by
  apply BitVec.eq_of_getLsbD_eq
  intro i hi
  have hin : start' + i < len := by omega
  simp [hi, hin, Nat.add_assoc]

/-- The transaction of a word with ADDR[15:14] = 0b01: the window's, at word index ADDR[13:2] (R62, R82 rows 19, 20). -/
theorem decode_window {bt : BusWord} (hbt : bt.extractLsb' 46 2 = 1) :
    decode bt = if bt.getLsbD 48 then .wrArt (bt.extractLsb' 34 12) (bt.extractLsb' 32 2) (bt.extractLsb' 0 32)
      else .rdArt (bt.extractLsb' 34 12) (bt.extractLsb' 32 2) (bt.extractLsb' 0 32) := by
  have htop : (bt.extractLsb' 34 14).extractLsb' 12 2 = 1 :=
    (extractLsb'_extractLsb' bt 34 (by decide)).trans hbt
  have hidx : (bt.extractLsb' 34 14).extractLsb' 0 12 = bt.extractLsb' 34 12 :=
    extractLsb'_extractLsb' bt 34 (by decide)
  rw [decode, decodeRead_window htop, decodeWrite_window htop, hidx]

/-- Bit by bit: the lowest lane first (R65). -/
theorem laneWord_getLsbD (b3 b2 b1 b0 : Byte) (i : Nat) :
    (laneWord b3 b2 b1 b0).getLsbD i =
      if i < 8 then b0.getLsbD i
      else if i - 8 < 8 then b1.getLsbD (i - 8)
      else if i - 8 - 8 < 8 then b2.getLsbD (i - 8 - 8)
      else b3.getLsbD (i - 8 - 8 - 8) := by
  simp only [laneWord, BitVec.getLsbD_append]

/-- Lane `n` of a word of four bytes is byte `n` (R65). -/
theorem laneWord_lane (f : Nat → Byte) {n : Nat} (hn : n < 4) :
    (laneWord (f 3) (f 2) (f 1) (f 0)).extractLsb' (8 * n) 8 = f n := by
  apply BitVec.eq_of_getLsbD_eq
  intro i hi
  rw [BitVec.getLsbD_extractLsb', laneWord_getLsbD, decide_eq_true hi, Bool.true_and]
  match n, hn with
  | 0, _ => rw [if_pos (by omega)]; congr 1; omega
  | 1, _ => rw [if_neg (by omega), if_pos (by omega)]; congr 1; omega
  | 2, _ => rw [if_neg (by omega), if_neg (by omega), if_pos (by omega)]; congr 1; omega
  | 3, _ => rw [if_neg (by omega), if_neg (by omega), if_neg (by omega)]; congr 1; omega

/-- Lane `n` of a window word is the byte visible at its index (R62). -/
theorem State.windowWord_lane (s : State) (idx : BitVec 12) {n : Nat} (hn : n < 4) :
    (s.windowWord idx).extractLsb' (8 * n) 8 = s.visibleByte (4 * idx.toNat + n) :=
  laneWord_lane (fun m => s.visibleByte (4 * idx.toNat + m)) hn

/-- Outside DONE no byte is visible (R63). -/
theorem State.visibleByte_of_not_done {s : State} (h : s.phase ≠ .done) (j : Nat) : s.visibleByte j = 0 :=
  if_neg fun hj => h hj.1

theorem State.windowWord_of_not_done {s : State} (h : s.phase ≠ .done) (idx : BitVec 12) : s.windowWord idx = 0 := by
  simp only [State.windowWord, State.visibleByte_of_not_done h]
  rfl

theorem State.artLen_of_not_done {s : State} (h : s.phase ≠ .done) : s.artLen = 0 := if_neg h

/-- Settles O13: `decode_window` names the transaction, and the window's lanes are the visible bytes. -/
theorem windowShowsOnlyTheCommittedArtifact : Obligations.WindowShowsOnlyTheCommittedArtifact := by
  intro s bt hbt
  refine ⟨fun hread => ?_, fun hwrite => ?_, fun lo wd hphase => ?_⟩
  · rw [decode_window hbt, hread]
    exact ⟨_, rfl, rfl, fun n hn => s.windowWord_lane _ hn, fun hphase => s.windowWord_of_not_done hphase _⟩
  · rw [decode_window hbt, hwrite]
    rfl
  · exact congrArg (fun v => Host.Outcome.next (s.respond (zext32 v))) (State.artLen_of_not_done hphase)

/-! ## What a finished conversion keeps (`20_memory.md` R74) -/

/-- While no conversion runs, only a START or a reset reaches the phase, the error code, CZN or ART. -/
theorem Effect.keeps_result {i : Instr} {s t : State} (he : Effect s i t) (h : s.Inv) (hidle : s.busy = false)
    (hreset : i ≠ .reset) (hstart : ∀ lo hi, i ≠ .wrCmdStart lo hi) :
    t.phase = s.phase ∧ t.errcode = s.errcode ∧ t.czn = s.czn ∧ t.art = s.art := by
  obtain ⟨hpack, hdrain⟩ := s.not_busy_iff.mp hidle
  cases he with
  | read | pass | targetW | targetH | config => exact ⟨rfl, rfl, rfl, rfl⟩
  | startDropped lo hi | startBadSize lo hi | startBadSource lo hi | startBegins lo hi =>
    exact absurd rfl (hstart lo hi)
  | reset => exact absurd rfl hreset
  | offer hphase => exact absurd hphase hpack
  | take hpkv | takeLast hpkv => exact absurd (h.offerInPack hpkv) hpack
  | overflow _ _ hbusy | store _ hbusy | czFail hbusy => exact absurd (hidle.symm.trans hbusy) (by decide)
  | storeEarlyLast _ hphase => exact absurd hphase hpack
  | storeLast _ hphase => exact absurd hphase hdrain

/-- What the host sees of the artifact depends on the phase, CZN and ART only (R63). -/
theorem State.artifact_congr {s t : State} (hphase : t.phase = s.phase) (hczn : t.czn = s.czn) (hart : t.art = s.art) :
    t.artLen = s.artLen ∧ ∀ j, t.visibleByte j = s.visibleByte j := by
  simp only [State.artLen, State.visibleByte, hphase, hczn, hart, implies_true, and_self]

/-- Settles O51: in DONE and in FAILED no conversion runs, so `Effect.keeps_result` applies. -/
theorem committedArtifactStaysUntilStartOrReset : Obligations.CommittedArtifactStaysUntilStartOrReset := by
  intro i s h hreset hstart
  obtain ⟨t, ht⟩ := exec_total i s
  have hkeeps (hidle : s.busy = false) := (effect_of_exec ht).keeps_result h hidle hreset hstart
  refine ⟨fun hdone => ?_, fun hfailed => ?_⟩
  · obtain ⟨hphase, -, hczn, hart⟩ := hkeeps (by simp [State.busy, hdone])
    exact ⟨t, ht, hphase.trans hdone, State.artifact_congr hphase hczn hart⟩
  · obtain ⟨hphase, herr, -, -⟩ := hkeeps (by simp [State.busy, hfailed])
    exact ⟨t, ht, hphase.trans hfailed, herr⟩

end Sys2Proof.Machine

namespace Sys2Proof

/-! ## The address map of `30_encoding.md` R82 -/

/-- A word is the word of its four fields (R80). -/
theorem eq_busWord (bt : BusWord) :
    bt = busWord (bt.getLsbD 48) (bt.extractLsb' 34 14) (bt.extractLsb' 32 2) (bt.extractLsb' 0 32) := by
  apply BitVec.eq_of_getLsbD_eq
  intro i hi
  rw [busWord_getLsbD]
  by_cases h32 : i < 32
  · simp [h32]
  by_cases h34 : i - 32 < 2
  · simp [h32, h34, show 32 + (i - 32) = i by omega]
  by_cases h48 : i - 32 - 2 < 14
  · simp [h32, h34, h48, show 34 + (i - 32 - 2) = i by omega]
  · obtain rfl : i = 48 := by omega
    simp

theorem windowTop_iff (w : WordAddr) : w.extractLsb' 12 2 = 1 ↔ 0x1000 ≤ w.toNat ∧ w.toNat < 0x2000 := by
  rw [← BitVec.toNat_inj, BitVec.extractLsb'_toNat, Nat.shiftRight_eq_div_pow]
  simp
  omega

theorem reservedWord_iff (w : WordAddr) : reservedWord w = true ↔ 8 ≤ w.toNat ∧ w.extractLsb' 12 2 ≠ 1 := by
  rw [ne_eq, windowTop_iff]
  simp only [reservedWord, Bool.or_eq_true, Bool.and_eq_true, decide_eq_true_eq]
  omega

/-- A word address names one of the eight registers, the window or the reserved space (R22). -/
theorem wordAddr_cases (w : WordAddr) :
    (w = 0 ∨ w = 1 ∨ w = 2 ∨ w = 3 ∨ w = 4 ∨ w = 5 ∨ w = 6 ∨ w = 7) ∨
    w.extractLsb' 12 2 = 1 ∨ reservedWord w = true := by
  by_cases hreg : w.toNat < 8
  · exact .inl (by bv_omega)
  · by_cases hwin : w.extractLsb' 12 2 = 1
    · exact .inr (.inl hwin)
    · exact .inr (.inr ((reservedWord_iff w).mpr ⟨by omega, hwin⟩))

theorem ne_register_of_ge {w : WordAddr} (h : 8 ≤ w.toNat) :
    w ≠ 0 ∧ w ≠ 1 ∧ w ≠ 2 ∧ w ≠ 3 ∧ w ≠ 4 ∧ w ≠ 5 ∧ w ≠ 6 ∧ w ≠ 7 := by
  bv_omega

theorem decodeRead_reserved {w : WordAddr} (hw : reservedWord w = true) (lo : BitVec 2) (wd : HData) :
    decodeRead w lo wd = .rdRsv w lo wd := by
  obtain ⟨hge, hwin⟩ := (reservedWord_iff w).mp hw
  simp only [decodeRead, ne_register_of_ge hge, hwin, ↓reduceIte]

theorem decodeWrite_reserved {w : WordAddr} (hw : reservedWord w = true) (lo : BitVec 2) (wd : HData) :
    decodeWrite w lo wd = .wrRsv w lo wd := by
  obtain ⟨hge, hwin⟩ := (reservedWord_iff w).mp hw
  simp only [decodeWrite, ne_register_of_ge hge, hwin, ↓reduceIte]

/-- A window address is the one of its word index (R62). -/
theorem windowAddr_of_top {w : WordAddr} (hw : w.extractLsb' 12 2 = 1) : windowAddr (w.extractLsb' 0 12) = w := by
  apply BitVec.eq_of_getLsbD_eq
  intro i hi
  rw [windowAddr_getLsbD]
  by_cases h : i < 12
  · simp [h]
  · have hbit := congrArg (fun v : BitVec 2 => v.getLsbD (i - 12)) hw
    simpa [h, show i - 12 < 2 by omega, show 12 + (i - 12) = i by omega] using hbit.symm

/-! ## Commands, by OP = WDATA[3:0] -/

theorem decodeCmd_cmdData (op : BitVec 4) (lo : BitVec 2) (hi : BitVec 28) :
    decodeCmd lo (cmdData op hi) =
      if op = 0 then .wrCmdNop lo hi else if op = 1 then .wrCmdStart lo hi else .wrCmdRsv op lo hi := by
  simp only [decodeCmd, cmdData_op, cmdData_hi]

/-- A command's WDATA is the one of its OP and its ignored bits (R86). -/
theorem cmdData_fields (wd : HData) : cmdData (wd.extractLsb' 0 4) (wd.extractLsb' 4 28) = wd := by
  apply BitVec.eq_of_getLsbD_eq
  intro i hi
  rw [cmdData_getLsbD]
  by_cases h : i < 4
  · simp [h]
  · simp [h, show i - 4 < 28 by omega, show 4 + (i - 4) = i by omega]

/-- The three rows of a CMD write (R82 rows 1-3). -/
theorem decodeCmd_cases (lo : BitVec 2) (wd : HData) :
    (wd.extractLsb' 0 4 = 0 ∧ decodeCmd lo wd = .wrCmdNop lo (wd.extractLsb' 4 28)) ∨
    (wd.extractLsb' 0 4 = 1 ∧ decodeCmd lo wd = .wrCmdStart lo (wd.extractLsb' 4 28)) ∨
    (2 ≤ (wd.extractLsb' 0 4).toNat ∧
      decodeCmd lo wd = .wrCmdRsv (wd.extractLsb' 0 4) lo (wd.extractLsb' 4 28)) := by
  by_cases h0 : wd.extractLsb' 0 4 = 0
  · exact .inl ⟨h0, by simp only [decodeCmd, h0, ↓reduceIte]⟩
  by_cases h1 : wd.extractLsb' 0 4 = 1
  · exact .inr (.inl ⟨h1, by simp only [decodeCmd, h1]; rfl⟩)
  · exact .inr (.inr ⟨by bv_omega, by simp only [decodeCmd, h0, h1, ↓reduceIte]⟩)

/-! ## Decoding what was encoded -/

theorem decode_of_encode {i : Instr} {bt : BusWord} {we : Bool} {w : WordAddr} {lo : BitVec 2} {wd : HData}
    (hword : encode i = some (busWord we w lo wd))
    (hdec : (if we then decodeWrite w lo wd else decodeRead w lo wd) = i) (henc : encode i = some bt) :
    decode bt = i := by
  obtain rfl : busWord we w lo wd = bt := Option.some.inj (hword.symm.trans henc)
  rw [decode_busWord, hdec]

/-- Settles O1: the word's fields come back, and the address (with OP in a command) selects the instruction's own row;
well-formedness keeps a reserved OP and a reserved address clear of the rows above. -/
theorem decodeGivesBackWhatWasEncoded : Obligations.DecodeGivesBackWhatWasEncoded := by
  intro i bt hwf henc
  cases i with
  | rdCmd | rdStatus | wrStatus | rdTargetW | wrTargetW | rdTargetH | wrTargetH | rdConfig | wrConfig | rdSrcDim
    | wrSrcDim | rdPackedLen | wrPackedLen | rdArtLen | wrArtLen => exact decode_of_encode rfl rfl henc
  | wrCmdNop lo hi => exact decode_of_encode rfl (decodeCmd_cmdData _ lo hi) henc
  | wrCmdStart lo hi => exact decode_of_encode rfl (decodeCmd_cmdData _ lo hi) henc
  | wrCmdRsv op lo hi =>
    have hop : 2 ≤ op.toNat := of_decide_eq_true hwf
    have h0 : op ≠ 0 := by bv_omega
    have h1 : op ≠ 1 := by bv_omega
    exact decode_of_encode rfl ((decodeCmd_cmdData op lo hi).trans (by rw [if_neg h0, if_neg h1])) henc
  | rdArt idx lo wd =>
    exact decode_of_encode rfl ((Machine.decodeRead_window (windowAddr_top idx) lo wd).trans (by simp)) henc
  | wrArt idx lo wd =>
    exact decode_of_encode rfl ((Machine.decodeWrite_window (windowAddr_top idx) lo wd).trans (by simp)) henc
  | rdRsv w lo wd => exact decode_of_encode rfl (decodeRead_reserved hwf lo wd) henc
  | wrRsv w lo wd => exact decode_of_encode rfl (decodeWrite_reserved hwf lo wd) henc
  | produce | pkXfer | czByte | czFail | reset => cases henc

/-! ## Encoding what was decoded -/

theorem encode_decodeCmd (lo : BitVec 2) (wd : HData) :
    (decodeCmd lo wd).wf = true ∧ encode (decodeCmd lo wd) = some (busWord true 0 lo wd) := by
  have hwd := cmdData_fields wd
  rcases decodeCmd_cases lo wd with ⟨hop, e⟩ | ⟨hop, e⟩ | ⟨hop, e⟩ <;> rw [e]
  · exact ⟨rfl, congrArg (fun d => some (busWord true 0 lo d)) (hop ▸ hwd)⟩
  · exact ⟨rfl, congrArg (fun d => some (busWord true 0 lo d)) (hop ▸ hwd)⟩
  · exact ⟨decide_eq_true hop, congrArg (fun d => some (busWord true 0 lo d)) hwd⟩

theorem encode_decodeWrite (w : WordAddr) (lo : BitVec 2) (wd : HData) :
    (decodeWrite w lo wd).wf = true ∧ encode (decodeWrite w lo wd) = some (busWord true w lo wd) := by
  rcases wordAddr_cases w with (rfl | hreg) | hwin | hrsv
  · exact encode_decodeCmd lo wd
  · rcases hreg with rfl | rfl | rfl | rfl | rfl | rfl | rfl <;> exact ⟨rfl, rfl⟩
  · rw [Machine.decodeWrite_window hwin]
    exact ⟨rfl, congrArg (fun a => some (busWord true a lo wd)) (windowAddr_of_top hwin)⟩
  · rw [decodeWrite_reserved hrsv]
    exact ⟨hrsv, rfl⟩

theorem encode_decodeRead (w : WordAddr) (lo : BitVec 2) (wd : HData) :
    (decodeRead w lo wd).wf = true ∧ encode (decodeRead w lo wd) = some (busWord false w lo wd) := by
  rcases wordAddr_cases w with hreg | hwin | hrsv
  · rcases hreg with rfl | rfl | rfl | rfl | rfl | rfl | rfl | rfl <;> exact ⟨rfl, rfl⟩
  · rw [Machine.decodeRead_window hwin]
    exact ⟨rfl, congrArg (fun a => some (busWord false a lo wd)) (windowAddr_of_top hwin)⟩
  · rw [decodeRead_reserved hrsv]
    exact ⟨hrsv, rfl⟩

/-- Settles O2: every word is the word of its fields, and the rows for its address keep them all. -/
theorem encodeGivesBackEveryWord : Obligations.EncodeGivesBackEveryWord := by
  intro bt
  rw [eq_busWord bt, decode_busWord]
  cases bt.getLsbD 48
  · exact encode_decodeRead _ _ _
  · exact encode_decodeWrite _ _ _

end Sys2Proof

namespace Sys2Proof

/-! ## The opcode table (`30_encoding.md` R82)

Rows of one priority exclude each other (`opcodeRows_disjoint`), so the decoder's row is the lowest as soon as it fits
and no fitting row has a lower priority. -/

theorem OpcodeRow.fits_iff (r : OpcodeRow) (bt : BusWord) : r.fits bt = true ↔ bt &&& r.mask = r.pattern :=
  decide_eq_true_iff

theorem busWord_and (we we' : Bool) (w w' : WordAddr) (lo lo' : BitVec 2) (wd wd' : HData) :
    busWord we w lo wd &&& busWord we' w' lo' wd' = busWord (we && we') (w &&& w') (lo &&& lo') (wd &&& wd') := by
  refine BitVec.and_append.trans ?_
  rw [BitVec.and_append, BitVec.and_append, BitVec.ofBool_and_ofBool]
  rfl

/-- Two rows of one priority ask for different values of some bit. -/
theorem opcodeRows_disjoint : ∀ q ∈ opcodeRows, ∀ r ∈ opcodeRows, q ≠ r → q.priority = r.priority →
    q.pattern &&& r.mask ≠ r.pattern &&& q.mask := by
  decide

theorem OpcodeRow.eq_of_fits {q r : OpcodeRow} {bt : BusWord} (hq : q ∈ opcodeRows) (hr : r ∈ opcodeRows)
    (hqfits : q.fits bt = true) (hrfits : r.fits bt = true) (hprio : q.priority = r.priority) : q = r := by
  by_contra hne
  refine opcodeRows_disjoint q hq r hr hne hprio ?_
  rw [← (q.fits_iff bt).mp hqfits, ← (r.fits_iff bt).mp hrfits, BitVec.and_assoc, BitVec.and_assoc,
    BitVec.and_comm q.mask]

/-- The row of `i` fits the word, and every other row that fits it has a higher priority. -/
def TakesLowestRow (bt : BusWord) (i : Instr) : Prop :=
  ∃ r ∈ opcodeRows, r.fits bt = true ∧ i.row = some r.name ∧
    ∀ q ∈ opcodeRows, q.fits bt = true → q ≠ r → r.priority < q.priority

/-- Given by its fields, WE in the mask as in every row: the word has the row's fields, and no fitting row has a lower
priority. -/
theorem takesLowestRow_of_le {name : Transaction} {we : Bool} {w k m : WordAddr} {lo : BitVec 2} {wd d dm : HData}
    {priority : Nat} {i : Instr}
    (hmem : ⟨name, busWord we k 0 d, busWord true m 0 dm, priority⟩ ∈ opcodeRows)
    (hw : w &&& m = k) (hwd : wd &&& dm = d) (hname : i.row = some name)
    (hle : ∀ q ∈ opcodeRows, q.fits (busWord we w lo wd) = true → priority ≤ q.priority) :
    TakesLowestRow (busWord we w lo wd) i := by
  have hfits : OpcodeRow.fits ⟨name, busWord we k 0 d, busWord true m 0 dm, priority⟩ (busWord we w lo wd) = true := by
    rw [OpcodeRow.fits_iff, busWord_and, hw, hwd]
    simp
  exact ⟨_, hmem, hfits, hname, fun q hq hqfits hne =>
    (hle q hq hqfits).lt_of_ne fun hprio => hne (OpcodeRow.eq_of_fits hq hmem hqfits hfits hprio.symm)⟩

/-- A row of a register: its mask takes WE and the whole word address. -/
theorem takesLowestRow_register {name : Transaction} {we : Bool} {k : WordAddr} {i : Instr} (lo : BitVec 2) (wd : HData)
    (hmem : ⟨name, busWord we k 0 0, busWord true 0x3FFF 0 0, 0⟩ ∈ opcodeRows) (hname : i.row = some name) :
    TakesLowestRow (busWord we k lo wd) i :=
  takesLowestRow_of_le hmem BitVec.and_allOnes BitVec.and_zero hname fun _ _ _ => Nat.zero_le _

/-- A row of the window: its mask takes WE and ADDR[15:14]. -/
theorem takesLowestRow_window {name : Transaction} {we : Bool} {w : WordAddr} {i : Instr} (lo : BitVec 2) (wd : HData)
    (hw : w.extractLsb' 12 2 = 1) (hmem : ⟨name, busWord we 0x1000 0 0, busWord true 0x3000 0 0, 0⟩ ∈ opcodeRows)
    (hname : i.row = some name) : TakesLowestRow (busWord we w lo wd) i := by
  have htop : w &&& 0x3000 = 0x1000 := by
    rw [← windowAddr_of_top hw]
    exact (BitVec.and_append (x₂ := 3#2) (y₂ := 0#12)).trans (by simp)
  exact takesLowestRow_of_le hmem htop BitVec.and_zero hname fun _ _ _ => Nat.zero_le _

/-- The rows above the reserved ones each fix a register's address or the window's. -/
theorem opcodeRows_notReserved : ∀ q ∈ opcodeRows, q.priority < 2 →
    (q.mask.extractLsb' 34 14 = BitVec.allOnes 14 ∧ reservedWord (q.pattern.extractLsb' 34 14) = false) ∨
    (q.mask.extractLsb' 46 2 = BitVec.allOnes 2 ∧ q.pattern.extractLsb' 46 2 = 1) := by
  decide

theorem priority_of_fits_reserved {q : OpcodeRow} {we : Bool} {w : WordAddr} {lo : BitVec 2} {wd : HData}
    (hw : reservedWord w = true) (hq : q ∈ opcodeRows) (hfits : q.fits (busWord we w lo wd) = true) :
    2 ≤ q.priority := by
  have hpat := (q.fits_iff _).mp hfits
  by_contra hlt
  rcases opcodeRows_notReserved q hq (Nat.lt_of_not_le hlt) with ⟨hmask, hreg⟩ | ⟨hmask, hwin⟩
  · rw [← hpat, BitVec.extractLsb'_and, hmask, BitVec.and_allOnes, busWord_addr, hw] at hreg
    cases hreg
  · rw [← hpat, BitVec.extractLsb'_and, hmask, BitVec.and_allOnes] at hwin
    refine ((reservedWord_iff w).mp hw).2 ?_
    rw [← busWord_addr we w lo wd, Machine.extractLsb'_extractLsb' _ _ (by decide)]
    exact hwin

theorem takesLowestRow_reserved {name : Transaction} {we : Bool} {w : WordAddr} {i : Instr} (lo : BitVec 2) (wd : HData)
    (hw : reservedWord w = true) (hmem : ⟨name, busWord we 0 0 0, busWord true 0 0 0, 2⟩ ∈ opcodeRows)
    (hname : i.row = some name) : TakesLowestRow (busWord we w lo wd) i :=
  takesLowestRow_of_le hmem BitVec.and_zero BitVec.and_zero hname fun _ => priority_of_fits_reserved hw

/-! ### The rows of CMD -/

/-- The rows above the reserved command's fix another address, a read or one of the two commands. -/
theorem opcodeRows_notReservedCmd : ∀ q ∈ opcodeRows, q.priority < 1 →
    q.pattern.extractLsb' 34 14 ≠ 0 ∨ (q.mask.getLsbD 48 = true ∧ q.pattern.getLsbD 48 = false) ∨
    (q.mask.extractLsb' 0 4 = BitVec.allOnes 4 ∧ (q.pattern.extractLsb' 0 4).toNat < 2) := by
  decide

theorem priority_of_fits_reservedCmd {q : OpcodeRow} {lo : BitVec 2} {wd : HData}
    (hop : 2 ≤ (wd.extractLsb' 0 4).toNat) (hq : q ∈ opcodeRows) (hfits : q.fits (busWord true 0 lo wd) = true) :
    1 ≤ q.priority := by
  have hpat := (q.fits_iff _).mp hfits
  by_contra hlt
  rcases opcodeRows_notReservedCmd q hq (Nat.lt_of_not_le hlt) with haddr | ⟨hmask, hread⟩ | ⟨hmask, hcmd⟩
  · rw [← hpat, BitVec.extractLsb'_and, busWord_addr] at haddr
    exact haddr BitVec.zero_and
  · rw [← hpat, BitVec.getLsbD_and, busWord_we, hmask] at hread
    cases hread
  · have hdata : (busWord true 0 lo wd).extractLsb' 0 4 = wd.extractLsb' 0 4 := by
      conv_rhs => rw [← busWord_data true 0 lo wd, Machine.extractLsb'_extractLsb' _ _ (by decide)]
    rw [← hpat, BitVec.extractLsb'_and, hmask, BitVec.and_allOnes, hdata] at hcmd
    omega

/-- The part of WDATA that the rows of the two commands look at. -/
theorem and_opMask (wd : HData) : wd &&& 0xF = cmdData (wd.extractLsb' 0 4) 0 := by
  conv_lhs => rw [← cmdData_fields wd]
  refine (BitVec.and_append (x₂ := 0#28) (y₂ := BitVec.allOnes 4)).trans ?_
  rw [BitVec.and_allOnes, BitVec.and_zero]
  rfl

theorem takesLowestRow_decodeCmd (lo : BitVec 2) (wd : HData) :
    TakesLowestRow (busWord true 0 lo wd) (decodeCmd lo wd) := by
  have hand := and_opMask wd
  rcases decodeCmd_cases lo wd with ⟨hop, e⟩ | ⟨hop, e⟩ | ⟨hop, e⟩ <;> rw [e]
  · rw [hop] at hand
    exact takesLowestRow_of_le (by decide) BitVec.and_allOnes hand rfl fun _ _ _ => Nat.zero_le _
  · rw [hop] at hand
    exact takesLowestRow_of_le (by decide) BitVec.and_allOnes hand rfl fun _ _ _ => Nat.zero_le _
  · exact takesLowestRow_of_le (by decide) BitVec.and_allOnes BitVec.and_zero rfl fun _ =>
      priority_of_fits_reservedCmd hop

theorem takesLowestRow_decodeWrite (w : WordAddr) (lo : BitVec 2) (wd : HData) :
    TakesLowestRow (busWord true w lo wd) (decodeWrite w lo wd) := by
  rcases wordAddr_cases w with (rfl | hreg) | hwin | hrsv
  · exact takesLowestRow_decodeCmd lo wd
  · rcases hreg with rfl | rfl | rfl | rfl | rfl | rfl | rfl <;>
      exact takesLowestRow_register lo wd (by decide) rfl
  · rw [Machine.decodeWrite_window hwin]
    exact takesLowestRow_window lo wd hwin (by decide) rfl
  · rw [decodeWrite_reserved hrsv]
    exact takesLowestRow_reserved lo wd hrsv (by decide) rfl

theorem takesLowestRow_decodeRead (w : WordAddr) (lo : BitVec 2) (wd : HData) :
    TakesLowestRow (busWord false w lo wd) (decodeRead w lo wd) := by
  rcases wordAddr_cases w with hreg | hwin | hrsv
  · rcases hreg with rfl | rfl | rfl | rfl | rfl | rfl | rfl | rfl <;>
      exact takesLowestRow_register lo wd (by decide) rfl
  · rw [Machine.decodeRead_window hwin]
    exact takesLowestRow_window lo wd hwin (by decide) rfl
  · rw [decodeRead_reserved hrsv]
    exact takesLowestRow_reserved lo wd hrsv (by decide) rfl

/-- Settles O3: the decoder's row fits the word, no fitting row has a lower priority, and rows of one priority exclude
each other. -/
theorem decodeTakesTheLowestPriorityRow : Obligations.DecodeTakesTheLowestPriorityRow := by
  intro bt
  rw [eq_busWord bt, decode_busWord]
  cases bt.getLsbD 48
  · exact takesLowestRow_decodeRead _ _ _
  · exact takesLowestRow_decodeWrite _ _ _

/-- Settles O4: each word is evaluated. -/
theorem commonTransactionWordsDecode : Obligations.CommonTransactionWordsDecode := by
  unfold Obligations.CommonTransactionWordsDecode
  decide

end Sys2Proof

namespace Sys2Proof.Machine

/-! ## The number a read returns (`30_encoding.md` R84, R88) -/

/-- Two fields side by side, as numbers. -/
theorem toNat_append_eq_add {m n : Nat} (x : BitVec m) (y : BitVec n) :
    (x ++ y).toNat = 2 ^ n * x.toNat + y.toNat := by
  rw [BitVec.toNat_append, ← Nat.shiftLeft_add_eq_or_of_lt y.isLt, Nat.shiftLeft_eq, Nat.mul_comm]

theorem zext32_toNat {n : Nat} (hn : n ≤ 32) (v : BitVec n) : (zext32 v).toNat = v.toNat :=
  BitVec.toNat_setWidth_of_le hn

theorem configWord_toNat (invert : Bool) (thresh : Byte) :
    (configWord invert thresh).toNat = 256 * invert.toNat + thresh.toNat := by
  rw [configWord, zext32_toNat (by decide), toNat_append_eq_add, BitVec.toNat_ofBool]
  rfl

theorem dimWord_toNat (height width : BitVec 16) : (dimWord height width).toNat = 65536 * height.toNat + width.toNat :=
  toNat_append_eq_add height width

theorem laneWord_toNat (b3 b2 b1 b0 : Byte) :
    (laneWord b3 b2 b1 b0).toNat = 16777216 * b3.toNat + 65536 * b2.toNat + 256 * b1.toNat + b0.toNat := by
  simp only [laneWord, toNat_append_eq_add]
  omega

theorem State.visibleByte_toNat (s : State) (j : Nat) : (s.visibleByte j).toNat = visibleNumber s j :=
  apply_ite BitVec.toNat ..

theorem State.windowWord_toNat (s : State) (idx : BitVec 12) :
    (s.windowWord idx).toNat = windowNumber s (4 * idx.toNat) := by
  simp only [State.windowWord, laneWord_toNat, State.visibleByte_toNat]
  rfl

theorem State.artLen_toNat (s : State) : s.artLen.toNat = if s.phase = .done then 2 + s.czn.toNat else 0 := by
  unfold State.artLen
  split
  · rw [BitVec.toNat_ofNat, Nat.mod_eq_of_lt (by omega)]
  · rfl

theorem Phase.code_toNat (p : Phase) : p.code.toNat = phaseNumber p := by cases p <;> rfl

theorem ErrCode.code_toNat (c : ErrCode) : c.code.toNat = errNumber c := by cases c <;> rfl

/-- ERR, DONE and BUSY, each at most one of them (R25-R27). -/
theorem State.flags_toNat (s : State) : 4 * s.isErr.toNat + 2 * s.isDone.toNat + s.busy.toNat =
    (if s.phase = .failed then 4 else 0) + (if s.phase = .done then 2 else 0)
      + (if s.phase = .pack ∨ s.phase = .drain then 1 else 0) := by
  unfold State.isErr State.isDone State.busy
  cases s.phase <;> rfl

theorem State.statusWord_toNat (s : State) : s.statusWord.toNat = statusNumber s := by
  have hflags := s.flags_toNat
  simp only [State.statusWord, toNat_append_eq_add, BitVec.toNat_ofBool, Phase.code_toNat, ErrCode.code_toNat]
  simp only [statusNumber, BitVec.toNat_ofNat, Nat.zero_mod]
  omega

/-- A read that answers the word with number `n`. -/
theorem exec_read_of_toNat {i : Instr} {s : State} {v : HData} {n : Nat} (hexec : exec i s = .next (s.respond v))
    (hv : v.toNat = n) : exec i s = .next { s with hrdata := BitVec.ofNat 32 n } := by
  subst hv
  rw [hexec, BitVec.ofNat_toNat, BitVec.setWidth_eq]
  rfl

/-- Settles O10: each read answers one word, whose number the lemmas above give. -/
theorem readsReturnTheirFields : Obligations.ReadsReturnTheirFields := by
  intro s lo wd
  refine ⟨rfl, ?status, ?targetW, ?targetH, ?config, ?srcDim, ?packedLen, ?artLen, fun idx => ?art, fun w => rfl⟩
  case status => exact exec_read_of_toNat rfl s.statusWord_toNat
  case targetW => exact exec_read_of_toNat rfl (zext32_toNat (by decide) _)
  case targetH => exact exec_read_of_toNat rfl (zext32_toNat (by decide) _)
  case config => exact exec_read_of_toNat rfl (configWord_toNat ..)
  case srcDim => exact exec_read_of_toNat rfl (dimWord_toNat ..)
  case packedLen => exact exec_read_of_toNat rfl (zext32_toNat (by decide) _)
  case artLen => exact exec_read_of_toNat rfl ((zext32_toNat (by decide) _).trans s.artLen_toNat)
  case art => exact exec_read_of_toNat rfl (s.windowWord_toNat idx)

/-! ## The fields of the STATUS word -/

theorem State.statusWord_fields (s : State) :
    s.statusWord.extractLsb' 17 15 = 0 ∧ s.statusWord.extractLsb' 11 5 = 0 ∧
    s.statusWord.extractLsb' 8 3 = s.phase.code ∧ s.statusWord.extractLsb' 6 2 = 0 ∧
    s.statusWord.extractLsb' 4 2 = s.errcode.code := by
  simp only [State.statusWord, BitVec.extractLsb'_append_eq_of_le, BitVec.extractLsb'_append_eq_of_add_le,
    Nat.reduceLeDiff, Nat.reduceSub]
  simp

theorem State.statusWord_bits (s : State) :
    s.statusWord.getLsbD 16 = s.source.ready ∧ s.statusWord.getLsbD 2 = s.isErr ∧
    s.statusWord.getLsbD 1 = s.isDone ∧ s.statusWord.getLsbD 0 = s.busy := by
  simp only [State.statusWord, BitVec.getLsbD_append]
  simp

/-- The table of R88, where ERRCODE is NONE just outside FAILED. -/
theorem statusLow_eq {p : Phase} {c : ErrCode} (h : c = .none ↔ p ≠ .failed) :
    statusLow p c = 256 * phaseNumber p + 16 * errNumber c + (if p = .failed then 4 else 0)
      + (if p = .done then 2 else 0) + (if p = .pack ∨ p = .drain then 1 else 0) := by
  revert h
  cases p <;> cases c <;> decide

/-- Settles O11: the fields one by one, and under the invariant on ERRCODE their sum is the table's value. -/
theorem statusWordHasItsFields : Obligations.StatusWordHasItsFields := by
  intro s lo wd
  obtain ⟨h17, h11, hphase, h6, herr⟩ := s.statusWord_fields
  obtain ⟨hready, hfailed, hdone, hbusy⟩ := s.statusWord_bits
  refine ⟨s.respond s.statusWord, rfl, ?_⟩
  rw [State.respond_hrdata]
  refine ⟨h17, hready, h11, ?_, h6, ?_, s.statusWord_bit_dropped, ?_, ?_, ?_, fun hinv => ⟨?_, ?_⟩⟩
  · rw [hphase, Phase.code_toNat]
  · rw [herr, ErrCode.code_toNat]
  · rw [hfailed, State.isErr, decide_eq_true_iff]
  · rw [hdone, State.isDone, decide_eq_true_iff]
  · rw [hbusy, State.busy_iff]
  · rw [s.statusWord_toNat, statusLow_eq hinv.errcode, statusNumber]
    omega
  · exact fun ⟨hfailed, hnone⟩ => hinv.errcode.mp hnone hfailed

end Sys2Proof.Machine

namespace Sys2Proof.Machine

/-! ## The host's lines (`30_encoding.md` R91, R92) -/

/-- `RD` as an encoded word: a read of `a` with WDATA 0. -/
theorem readWord_eq (a : HAddr) : readWord a = busWord false (a.extractLsb' 2 14) (a.extractLsb' 0 2) 0 := by
  have hwe : (readWord a).getLsbD 48 = false := BitVec.getLsbD_append.trans BitVec.getLsbD_append
  have haddr : (readWord a).extractLsb' 34 14 = a.extractLsb' 2 14 :=
    (BitVec.extractLsb'_append_eq_of_le (by decide)).trans (BitVec.extractLsb'_append_eq_of_add_le (by decide))
  have hlo : (readWord a).extractLsb' 32 2 = a.extractLsb' 0 2 :=
    (BitVec.extractLsb'_append_eq_of_le (by decide)).trans (BitVec.extractLsb'_append_eq_of_add_le (by decide))
  have hdata : (readWord a).extractLsb' 0 32 = 0 :=
    (BitVec.extractLsb'_append_eq_of_add_le (by decide)).trans BitVec.extractLsb'_eq_self
  rw [eq_busWord (readWord a), hwe, haddr, hlo, hdata]

theorem decode_writeWord (a : HAddr) (d : HData) :
    decode (writeWord a d) = decodeWrite (a.extractLsb' 2 14) (a.extractLsb' 0 2) d := by
  rw [writeWord_eq, decode_busWord]
  rfl

theorem decode_readWord (a : HAddr) :
    decode (readWord a) = decodeRead (a.extractLsb' 2 14) (a.extractLsb' 0 2) 0 := by
  rw [readWord_eq, decode_busWord]
  rfl

/-- A write that completes brings the host no word. -/
theorem issue_write {a : HAddr} {d : HData} {bts : List BusWord} {s t : State} {i : Instr}
    (hdec : decodeWrite (a.extractLsb' 2 14) (a.extractLsb' 0 2) d = i) (hwrite : i.isRead = false)
    (hexec : exec i { s with cmpStart := false } = .next t) : issue (writeWord a d :: bts) s = issue bts t := by
  rw [← decode_writeWord] at hdec
  rw [issue_cons (hdec ▸ hexec), hdec, hwrite]
  rfl

theorem fieldDim_eq (wd : HData) : fieldDim wd = BitVec.ofNat 16 wd.toNat := by
  apply BitVec.eq_of_toNat_eq
  simp [fieldDim]

/-- CFG's CONFIG word holds the threshold below the invert flag (R92). -/
theorem fields_cfgWord {t inv : HData} (ht : t.toNat < 256) (hinv : inv.toNat < 2) :
    fieldThresh ((inv <<< 8) ||| t) = BitVec.ofNat 8 t.toNat ∧
    fieldInvert ((inv <<< 8) ||| t) = decide (inv.toNat = 1) := by
  have hnum : ((inv <<< 8) ||| t).toNat = 256 * inv.toNat + t.toNat := by
    rw [BitVec.toNat_or, BitVec.toNat_shiftLeft, Nat.mod_eq_of_lt (by rw [Nat.shiftLeft_eq]; omega),
      ← Nat.shiftLeft_add_eq_or_of_lt ht, Nat.shiftLeft_eq, Nat.mul_comm]
  constructor
  · apply BitVec.eq_of_toNat_eq
    rw [fieldThresh, BitVec.extractLsb'_toNat, hnum, BitVec.toNat_ofNat, Nat.shiftRight_zero]
    omega
  · rw [fieldInvert, BitVec.getLsbD, hnum, Nat.testBit_eq_decide_div_mod_eq]
    exact decide_eq_decide.mpr (by omega)

/-- Settles O17: each transaction of a line runs as the write it decodes to, and a write brings no word. -/
theorem pseudoInstructionsWriteTheirRegisters : Obligations.PseudoInstructionsWriteTheirRegisters := by
  intro s w h t inv ht hinv
  obtain ⟨hthresh, hinvert⟩ := fields_cfgWord ht hinv
  refine ⟨?cfg, ?nop, fun u hu => ?start⟩
  case cfg =>
    rw [← hthresh, ← hinvert, ← fieldDim_eq, ← fieldDim_eq]
    exact (issue_write (i := .wrTargetW 0 w) rfl rfl rfl).trans <|
      (issue_write (i := .wrTargetH 0 h) rfl rfl rfl).trans <| issue_write (i := .wrConfig 0 _) rfl rfl rfl
  case nop => exact issue_write (i := .wrCmdNop 0 0) rfl rfl rfl
  case start => exact issue_write (i := .wrCmdStart 0 0) rfl rfl hu

/-! ### READART -/

/-- The word index of a window address is its offset in words (R62, R92). -/
theorem decode_windowRead {m : Nat} (hm : m < 4096) :
    decode (readWord (BitVec.ofNat 16 (0x4000 + 4 * m))) = .rdArt (BitVec.ofNat 12 m) 0 0 := by
  have haddr : (BitVec.ofNat 16 (0x4000 + 4 * m)).extractLsb' 2 14 = windowAddr (BitVec.ofNat 12 m) := by
    apply BitVec.eq_of_toNat_eq
    rw [windowAddr, toNat_append_eq_add, BitVec.extractLsb'_toNat, Nat.shiftRight_eq_div_pow]
    simp only [BitVec.toNat_ofNat]
    omega
  have hlo : (BitVec.ofNat 16 (0x4000 + 4 * m)).extractLsb' 0 2 = 0#2 := by
    apply BitVec.eq_of_toNat_eq
    rw [BitVec.extractLsb'_toNat, Nat.shiftRight_zero]
    simp only [BitVec.toNat_ofNat]
    omega
  rw [decode_readWord, haddr, hlo, decodeRead_window (windowAddr_top _), windowAddr_index]
  rfl

/-- A read brings its word. -/
theorem issue_read {bt : BusWord} {bts : List BusWord} {s : State} {v : HData} (hread : (decode bt).isRead = true)
    (hexec : exec (decode bt) (s.beginStep s.pending) = .next ((s.beginStep s.pending).respond v)) :
    issue (bt :: bts) s = (v :: (issue bts ((s.beginStep s.pending).respond v)).1,
      (issue bts ((s.beginStep s.pending).respond v)).2) := by
  rw [issue_cons hexec, hread]
  rfl

theorem issue_windowRead {m : Nat} (hm : m < 4096) (bts : List BusWord) (s : State) :
    issue (readWord (BitVec.ofNat 16 (0x4000 + 4 * m)) :: bts) s =
      (s.windowWord (BitVec.ofNat 12 m) ::
        (issue bts ((s.beginStep s.pending).respond (s.windowWord (BitVec.ofNat 12 m)))).1,
      (issue bts ((s.beginStep s.pending).respond (s.windowWord (BitVec.ofNat 12 m)))).2) :=
  issue_read (by rw [decode_windowRead hm]; rfl) (by rw [decode_windowRead hm]; rfl)

/-- Window reads bring the window's words, and change HRDATA and the CMP_START pulse only. -/
theorem issue_windowReads (ms : List Nat) (hms : ∀ m ∈ ms, m < 4096) (s : State) :
    ∃ v, issue (ms.map fun m => readWord (BitVec.ofNat 16 (0x4000 + 4 * m))) s =
      (ms.map fun m => s.windowWord (BitVec.ofNat 12 m),
        { s with hrdata := v, cmpStart := s.cmpStart && ms.isEmpty }) := by
  induction ms generalizing s with
  | nil => exact ⟨s.hrdata, by rw [List.isEmpty_nil, Bool.and_true]; rfl⟩
  | cons m ms ih =>
    obtain ⟨hm, hms⟩ := List.forall_mem_cons.mp hms
    obtain ⟨v, hv⟩ := ih hms ((s.beginStep s.pending).respond (s.windowWord (BitVec.ofNat 12 m)))
    refine ⟨v, ?_⟩
    rw [List.map_cons, issue_windowRead hm, hv, List.isEmpty_cons, Bool.and_false]
    rfl

theorem flatMap_range_four {α : Type} (f : Nat → α) (k : Nat) :
    ((List.range k).flatMap fun m => [f (4 * m), f (4 * m + 1), f (4 * m + 2), f (4 * m + 3)]) =
      (List.range (4 * k)).map f := by
  induction k with
  | zero => rfl
  | succ k ih => simp [List.range_succ, Nat.mul_succ, ih]

/-- The lanes of a window word, lowest first, are the bytes visible at its four indices (R62). -/
theorem State.windowWord_lanes (s : State) {m : Nat} (hm : m < 4096) :
    [(s.windowWord (BitVec.ofNat 12 m)).extractLsb' 0 8, (s.windowWord (BitVec.ofNat 12 m)).extractLsb' 8 8,
      (s.windowWord (BitVec.ofNat 12 m)).extractLsb' 16 8, (s.windowWord (BitVec.ofNat 12 m)).extractLsb' 24 8] =
    [s.visibleByte (4 * m), s.visibleByte (4 * m + 1), s.visibleByte (4 * m + 2), s.visibleByte (4 * m + 3)] := by
  have lane {n : Nat} (hn : n < 4) := s.windowWord_lane (BitVec.ofNat 12 m) hn
  rw [BitVec.toNat_ofNat, Nat.mod_eq_of_lt hm] at lane
  simp only [List.cons.injEq, and_true]
  exact ⟨lane (n := 0) (by decide), lane (n := 1) (by decide), lane (n := 2) (by decide), lane (n := 3) (by decide)⟩

theorem artBytes_windowWords (s : State) {n k : Nat} (hn : n ≤ 4 * k) (hk : k ≤ 4096) :
    artBytes n ((List.range k).map fun m => s.windowWord (BitVec.ofNat 12 m)) = (List.range n).map s.visibleByte := by
  rw [artBytes, List.flatMap_map,
    List.flatMap_congr fun m hm => s.windowWord_lanes ((List.mem_range.mp hm).trans_le hk),
    flatMap_range_four, ← List.map_take, List.take_range, Nat.min_eq_left hn]

/-- Settles O18: the words the reads bring are the window's, and their lanes in order are the bytes visible, which in
DONE are the artifact's. -/
theorem readArtReadsTheArtifact : Obligations.ReadArtReadsTheArtifact := by
  intro s n hdone hn
  obtain ⟨v, hissue⟩ := issue_windowReads (List.range ((n + 3) / 4))
    (fun m hm => (List.mem_range.mp hm).trans_le (by omega)) s
  have hwords : issue (HostLine.readArt n).words s = _ := hissue
  rw [hwords, artBytes_windowWords s (by omega) (by omega)]
  refine ⟨?_, v, ?_⟩
  · simp [State.visibleByte, hdone]
  · have hempty : (List.range ((n + 3) / 4)).isEmpty = decide (n = 0) := by
      rw [Bool.eq_iff_iff]
      simp
      omega
    rw [hempty]

/-! ### WAITIDLE -/

theorem decode_readStatus : decode (readWord 0x0004) = .rdStatus 0 0 := by decide

theorem State.statusWord_and_one (s : State) : s.statusWord &&& 1 = 0 ↔ s.busy = false := by
  obtain ⟨-, -, -, hbusy⟩ := s.statusWord_bits
  rw [show (1 : HData) = 1#32 from rfl, BitVec.and_one_eq_setWidth_ofBool_getLsbD, hbusy]
  cases s.busy <;> decide

/-- The first read of WAITIDLE answers STATUS. -/
theorem issueOne_readStatus (s : State) :
    issueOne (readWord 0x0004) s = .next ((s.beginStep s.pending).respond s.statusWord) := by
  rw [issueOne_eq, decode_readStatus]
  rfl

theorem waitIdle_succ_of_idle {s : State} (hidle : s.busy = false) (rounds : Nat) :
    waitIdle (rounds + 1) s = some ((s.beginStep s.pending).respond s.statusWord) := by
  simp only [waitIdle, poll, issueOne_readStatus, State.respond_hrdata, s.statusWord_and_one.mpr hidle, ↓reduceIte]

/-- While BUSY = 1 the loop goes on, after one other turn. -/
theorem waitIdle_succ_of_busy {s t : State} (hbusy : s.busy = true) {rounds : Nat}
    (h : waitIdle (rounds + 1) s = some t) : ∃ u, waitIdle rounds u = some t := by
  have hmask : ¬ s.statusWord &&& 1 = 0 := fun h0 =>
    absurd (hbusy.symm.trans (s.statusWord_and_one.mp h0)) (by decide)
  simp only [waitIdle, poll, issueOne_readStatus, State.respond_hrdata, hmask, ↓reduceIte] at h
  split at h
  · exact ⟨_, h⟩
  · cases h

theorem waitIdle_busy {rounds : Nat} {s t : State} (h : waitIdle rounds s = some t) : t.busy = false := by
  induction rounds generalizing s with
  | zero => cases h
  | succ rounds ih =>
    cases hbusy : s.busy with
    | false =>
      rw [waitIdle_succ_of_idle hbusy] at h
      cases h
      exact hbusy
    | true =>
      obtain ⟨u, hu⟩ := waitIdle_succ_of_busy hbusy h
      exact ih hu

/-- Settles O19: the loop ends at a read that finds BUSY = 0, and that read does not change the phase. -/
theorem waitIdleEndsIdle : Obligations.WaitIdleEndsIdle :=
  fun s rounds => ⟨fun hidle => ⟨s.statusWord, waitIdle_succ_of_idle hidle rounds⟩, fun _ h => waitIdle_busy h⟩

end Sys2Proof.Machine

namespace Sys2Proof.Machine

/-! ## Parameter writes (`40_host_interface.md` R108, R110, R112)

The fields of WDATA as numbers: a write stores them, and the read of the same register gives them back. -/

theorem fieldDim_toNat (wd : HData) : (fieldDim wd).toNat = wd.toNat % 65536 := by
  rw [fieldDim_eq, BitVec.toNat_ofNat]

theorem fieldThresh_eq (wd : HData) : fieldThresh wd = BitVec.ofNat 8 wd.toNat := by
  apply BitVec.eq_of_toNat_eq
  simp [fieldThresh]

theorem fieldInvert_eq (wd : HData) : fieldInvert wd = decide (wd.toNat / 256 % 2 = 1) :=
  Nat.testBit_eq_decide_div_mod_eq

/-- CONFIG shows the low nine bits of the word written to it: THRESH, and INVERT above it. -/
theorem configWord_fields_toNat (wd : HData) :
    (configWord (fieldInvert wd) (fieldThresh wd)).toNat = wd.toNat % 512 := by
  have hinvert : (fieldInvert wd).toNat = wd.toNat / 256 % 2 := Nat.toNat_testBit wd.toNat 8
  rw [configWord_toNat, hinvert, fieldThresh_eq, BitVec.toNat_ofNat]
  omega

/-- Settles O14: each write stores one field, whose number the lemmas above give, and the read answers that number. -/
theorem parameterWritesAreStoredAndReadBack : Obligations.ParameterWritesAreStoredAndReadBack := by
  intro s lo lo' wd wd'
  rw [← fieldDim_eq, ← fieldThresh_eq, ← fieldInvert_eq]
  have hdim : (zext32 (fieldDim wd)).toNat = wd.toNat % 65536 :=
    (zext32_toNat (by decide) _).trans (fieldDim_toNat wd)
  exact ⟨⟨_, rfl, rfl, exec_read_of_toNat rfl hdim⟩, ⟨_, rfl, rfl, exec_read_of_toNat rfl hdim⟩,
    ⟨_, rfl, rfl, exec_read_of_toNat rfl (configWord_fields_toNat wd)⟩⟩

/-! ## START (`40_host_interface.md` R101) -/

/-- A size that R103 calls bad ends START before it looks at the source (R205). -/
theorem State.start_of_badSize {s : State} (hb : s.busy = false) (hsize : badSize s) :
    s.start = ({ s.acceptStart with plen := 0 } : State).fail .invalidParams := by
  have hbad : ¬ validParams s.targetW s.targetH = true := fun h => (validParams_iff_not_badSize s).mp h hsize
  simp [State.start, hb, hbad]

theorem State.start_of_badSource {s : State} (hb : s.busy = false) (hsize : ¬ badSize s) (hsource : badSource s) :
    s.start = ({ s.acceptStart with plen := 0 } : State).fail .sourceUnavailable := by
  have hbad : ¬ s.source.available = true := fun h => (available_iff_not_badSource s).mp h hsource
  simp [State.start, hb, (validParams_iff_not_badSize s).mpr hsize, hbad]

theorem lowByte_eq (v : BitVec 16) : lowByte v = BitVec.ofNat 8 v.toNat := by
  apply BitVec.eq_of_toNat_eq
  simp [lowByte]

/-- The packed length is the pixel count over eight, rounded up (R160). -/
theorem packedLength_bounds (lw lh : Byte) :
    8 * packedLength lw lh < lw.toNat * lh.toNat + 8 ∧ lw.toNat * lh.toNat ≤ 8 * packedLength lw lh := by
  unfold packedLength
  omega

/-- Settles O23: the state is the one `beginConversion` leaves, and PLEN is the packed length of the latched size, which
for a good size is the target size. -/
theorem startBeginsAConversion : Obligations.StartBeginsAConversion := by
  intro s lo hi hb hsize hsource _
  obtain ⟨hlw, hlh⟩ := s.latchedNow_toNat_of_good hsize
  obtain ⟨hupper, hlower⟩ := packedLength_bounds s.latchedNow.lw s.latchedNow.lh
  rw [hlw, hlh] at hupper hlower
  rw [← lowByte_eq, ← lowByte_eq]
  exact ⟨_, _, _, _, congrArg Host.Outcome.next (State.start_of_good hb hsize hsource), hupper, hlower,
    packedLength_le_plenMax _ _⟩

/-- Settles O21: the size is checked before the source. -/
theorem startRejectsABadSizeFirst : Obligations.StartRejectsABadSizeFirst :=
  fun _ _ _ hb hsize => ⟨_, _, _, congrArg Host.Outcome.next (State.start_of_badSize hb hsize)⟩

/-- Settles O22: a good size lets the check of the source decide. -/
theorem startRejectsAnUnavailableSource : Obligations.StartRejectsAnUnavailableSource :=
  fun _ _ _ hb hsize hsource => ⟨_, _, _, congrArg Host.Outcome.next (State.start_of_badSource hb hsize hsource)⟩

/-- Settles O27: in DONE KB equals the packed length of a non-empty image, and the failed START clears only PLEN. -/
theorem failedStartKeepsKbAbovePlen : Obligations.FailedStartKeepsKbAbovePlen := by
  intro s lo hi hinv hdone hsize
  have hidle : s.busy = false := by simp [s.not_busy_iff, hdone]
  obtain ⟨hlw, hlh, hplen, -⟩ := hinv.running (.inr (.inr hdone))
  have hkb : 0 < s.kb.toNat := by
    rw [hinv.drained (.inr hdone), hplen]
    exact packedLength_pos hlw hlh
  exact ⟨_, congrArg Host.Outcome.next (State.start_of_badSize hidle hsize), rfl, hkb⟩

/-! ## Transactions without effect -/

/-- Settles O15: the meaning of each of these writes answers the state it was given. -/
theorem writesWithoutEffectChangeNothing : Obligations.WritesWithoutEffectChangeNothing :=
  fun _ _ _ _ _ => ⟨rfl, rfl, rfl, rfl, rfl, rfl⟩

/-- Settles O16: the reserved writes answer the state they were given, and the reserved read answers 0. -/
theorem reservedTransactionsHaveTheBlocksEffect : Obligations.ReservedTransactionsHaveTheBlocksEffect :=
  fun _ _ _ _ _ _ => ⟨rfl, rfl, rfl⟩

end Sys2Proof.Machine

namespace Sys2Proof.Machine

/-! ## Luminance and classification (`41_binarizer.md` R145-R150) -/

theorem luma1000_le (p : Rgba) : luma1000 p ≤ 255000 := by
  unfold luma1000
  omega

/-- Every weight is positive, so only black has luminance 0 (R145). -/
theorem luma1000_eq_zero_iff (p : Rgba) : luma1000 p = 0 ↔ p.r = 0 ∧ p.g = 0 ∧ p.b = 0 := by
  simp only [luma1000, ← BitVec.toNat_inj, BitVec.ofNat_eq_ofNat, BitVec.toNat_ofNat]
  omega

/-- Every weight is positive, so only white has the greatest luminance (R145). -/
theorem luma1000_eq_max_iff (p : Rgba) : luma1000 p = 255000 ↔ p.r = 255 ∧ p.g = 255 ∧ p.b = 255 := by
  simp only [luma1000, ← BitVec.toNat_inj, BitVec.ofNat_eq_ofNat, BitVec.toNat_ofNat]
  omega

/-- The weights add up to 1000 (R150). -/
theorem luma1000_of_grey {p : Rgba} (hrg : p.r = p.g) (hgb : p.g = p.b) : luma1000 p = 1000 * p.r.toNat := by
  rw [luma1000, hrg, hgb]
  omega

/-- Settles O28, by the lemmas above. -/
theorem luminanceIsTheExactWeightedSum : Obligations.LuminanceIsTheExactWeightedSum :=
  fun p => ⟨rfl, luma1000_le p, luma1000_eq_zero_iff p, luma1000_eq_max_iff p, luma1000_of_grey⟩

theorem classify_of_le {p : Rgba} {lt : Byte} (h : luma1000 p ≤ 1000 * lt.toNat) (linv : Bool) :
    classify p lt linv = linv := by
  simp [classify, Nat.not_lt.mpr h]

theorem classify_of_lt {p : Rgba} {lt : Byte} (h : 1000 * lt.toNat < luma1000 p) (linv : Bool) :
    classify p lt linv = !linv := by
  simp [classify, h]

theorem classify_eq_true_iff (p : Rgba) (lt : Byte) (linv : Bool) :
    classify p lt linv = true ↔ (1000 * lt.toNat < luma1000 p ↔ linv = false) := by
  rcases Nat.lt_or_ge (1000 * lt.toNat) (luma1000 p) with h | h
  · simp [classify_of_lt h, h]
  · simp [classify_of_le h, Nat.not_lt.mpr h]

/-- Settles O29, from the two sides of the comparison: nothing is above threshold 255, and only black is not above 0. -/
theorem classificationIsStrictThenInverted : Obligations.ClassificationIsStrictThenInverted := by
  intro p lt linv
  refine ⟨classify_eq_true_iff p lt linv, classify_of_le (luma1000_le p) _, classify_of_le (luma1000_le p) _, ?_,
    fun heq => ⟨classify_of_le heq.le _, classify_of_le heq.le _⟩⟩
  · rw [classify_eq_true_iff, ← luma1000_eq_zero_iff]
    simp [Nat.pos_iff_ne_zero]

/-- A grey compares its level with the threshold (R150). -/
theorem classify_of_grey {p : Rgba} (hrg : p.r = p.g) (hgb : p.g = p.b) (lt : Byte) (linv : Bool) :
    classify p lt linv = Bool.xor (decide (lt.toNat < p.r.toNat)) linv := by
  rw [classify, luma1000_of_grey hrg hgb]
  simp only [Nat.mul_lt_mul_left (show 0 < 1000 by decide)]

/-- Settles O30: invert is the last XOR, and alpha is no operand of the luminance. -/
theorem classificationDualityGreyAndAlpha : Obligations.ClassificationDualityGreyAndAlpha := by
  intro p lt linv alpha
  refine ⟨?_, fun hrg hgb => classify_of_grey hrg hgb lt linv, rfl⟩
  simp [classify]

/-! ## The kernel and its laws (`41_binarizer.md` R142-R144) -/

theorem uniformColour_eq_some_iff (samples : List Rgba) (c : Rgba) :
    uniformColour samples = some c ↔ samples ≠ [] ∧ ∀ d ∈ samples, d = c := by
  cases samples with
  | nil => simp [uniformColour]
  | cons e es =>
    constructor
    · intro h
      obtain ⟨hall, rfl⟩ : (∀ d ∈ es, d = e) ∧ e = c := by simpa [uniformColour] using h
      exact ⟨List.cons_ne_nil _ _, by simpa using hall⟩
    · rintro ⟨-, hall⟩
      obtain ⟨rfl, hes⟩ := List.forall_mem_cons.mp hall
      simpa [uniformColour] using hes

/-- The wrapper answers the one colour of a uniform source, and the kernel's own answer otherwise. -/
theorem admissible_cases (K : Kernel) (samples : List Rgba) (lsw lsh : BitVec 16) (lw lh : Byte) (x y : Nat) :
    (samples ≠ [] ∧ ∀ d ∈ samples, d = admissible K samples lsw lsh lw lh x y) ∨
      admissible K samples lsw lsh lw lh x y = K samples lsw lsh lw lh x y := by
  unfold admissible
  cases h : uniformColour samples with
  | some c => exact .inl ((uniformColour_eq_some_iff samples c).mp h)
  | none => exact .inr rfl

theorem admissible_of_uniform (K : Kernel) {samples : List Rgba} {c : Rgba} (hne : samples ≠ [])
    (h : ∀ d ∈ samples, d = c) (lsw lsh : BitVec 16) (lw lh : Byte) (x y : Nat) :
    admissible K samples lsw lsh lw lh x y = c := by
  simp [admissible, (uniformColour_eq_some_iff samples c).mpr ⟨hne, h⟩]

theorem mem_inRangeSamples {img : Image} {w h : Nat} {d : Rgba} :
    d ∈ inRangeSamples img w h ↔ ∃ sx sy, sx < w ∧ sy < h ∧ sampleAt img sx sy = d := by
  simp only [inRangeSamples, List.mem_flatMap, List.mem_map, List.mem_range]
  exact ⟨fun ⟨sy, hy, sx, hx, e⟩ => ⟨sx, sy, hx, hy, e⟩, fun ⟨sx, sy, hx, hy, e⟩ => ⟨sy, hy, sx, hx, e⟩⟩

/-- The samples a kernel is given depend on the samples in range alone (R143 law 3). -/
theorem inRangeSamples_congr {img img' : Image} {w h : Nat}
    (heq : ∀ sx sy, sx < w → sy < h → sampleAt img sx sy = sampleAt img' sx sy) :
    inRangeSamples img w h = inRangeSamples img' w h := by
  refine List.flatMap_congr fun sy hy => List.map_congr_left fun sx hx => ?_
  exact heq sx sy (List.mem_range.mp hx) (List.mem_range.mp hy)

/-- Law 2 of R143: a source of one colour resamples to it, whatever the kernel. -/
theorem resample_of_uniform (K : Kernel) {l : Latched} {img : Image} {c : Rgba} (hw : l.lsw ≠ 0) (hh : l.lsh ≠ 0)
    (huniform : ∀ sx sy, sx < l.lsw.toNat → sy < l.lsh.toNat → sampleAt img sx sy = c) (x y : Nat) :
    resample (admissible K) l img x y = c := by
  have hfirst : sampleAt img 0 0 ∈ inRangeSamples img l.lsw.toNat l.lsh.toNat :=
    mem_inRangeSamples.mpr ⟨0, 0, by bv_omega, by bv_omega, rfl⟩
  refine admissible_of_uniform K (List.ne_nil_of_mem hfirst) (fun d hd => ?_) ..
  obtain ⟨sx, sy, hx, hy, rfl⟩ := mem_inRangeSamples.mp hd
  exact huniform sx sy hx hy

/-- A kernel that keeps uniform sources is used as it is (log 13). -/
theorem admissible_eq_self {K : Kernel} (hkeeps : ∀ samples c lsw lsh lw lh x y, samples ≠ [] →
    (∀ d ∈ samples, d = c) → K samples lsw lsh lw lh x y = c) : admissible K = K := by
  funext samples lsw lsh lw lh x y
  rcases admissible_cases K samples lsw lsh lw lh x y with ⟨hne, hall⟩ | h
  · exact (hkeeps samples _ lsw lsh lw lh x y hne hall).symm
  · exact h

/-- Settles O31: law 2, law 3 through the list of samples, and the wrapper on a kernel that needs none. -/
theorem kernelMeetsItsLaws : Obligations.KernelMeetsItsLaws := by
  refine ⟨fun K l img c x y hw hh huniform => resample_of_uniform K hw hh huniform x y, ?_,
    fun K hkeeps => admissible_eq_self hkeeps⟩
  intro K l img img' x y heq
  unfold resample
  rw [inRangeSamples_congr heq]

/-- Settles O32: on a uniform source the sample at the target's place has the one colour there is. -/
theorem unitScaleIdentitySurvivesTheUniformLaw : Obligations.UnitScaleIdentitySurvivesTheUniformLaw := by
  intro K hK img w h x y hx hy
  rcases admissible_cases K (inRangeSamples img w.toNat h.toNat) (w.setWidth 16) (h.setWidth 16) w h x y
    with ⟨-, hall⟩ | heq
  · exact (hall _ (mem_inRangeSamples.mpr ⟨x, y, hx, hy, rfl⟩)).symm
  · rw [heq, hK img w h x y hx hy]

/-! ## The packed byte, bit by bit (`42_packer.md` R161) -/

theorem lane_eq (n : Nat) (on : Nat → Bool) (k p : Nat) :
    lane n on k p = (decide (8 * k + p < n) && on (8 * k + p)).toNat <<< (7 - p) := by
  unfold lane
  split <;> simp [*]

/-- Eight numbers, each one bit at its own place, sum to the number that has those bits. -/
theorem testBit_sum_eight {b : Nat → Bool} {f : Nat → Nat} (hf : ∀ i, f i = (b i).toNat <<< (7 - i)) {p : Nat}
    (hp : p < 8) : (f 0 + f 1 + f 2 + f 3 + f 4 + f 5 + f 6 + f 7).testBit (7 - p) = b p := by
  have hbit : ∀ i, (b i).toNat ≤ 1 := fun i => (b i).toNat_le
  have h0 := hbit 0
  have h1 := hbit 1
  have h2 := hbit 2
  have h3 := hbit 3
  have h4 := hbit 4
  have h5 := hbit 5
  have h6 := hbit 6
  have h7 := hbit 7
  rw [Bool.eq_iff_iff, Nat.testBit_eq_decide_div_mod_eq, decide_eq_true_iff, ← Bool.toNat_eq_one]
  simp only [hf, Nat.shiftLeft_eq]
  interval_cases p <;> omega

/-- Bit `7-p` of packed byte `k` is the classification of pixel `8k+p`, and 0 where no such pixel exists (R161). -/
theorem packByte_getLsbD (n : Nat) (on : Nat → Bool) (k : Nat) {p : Nat} (hp : p < 8) :
    (packByte n on k).getLsbD (7 - p) = (decide (8 * k + p < n) && on (8 * k + p)) := by
  have hwidth : 7 - p < 8 := by omega
  rw [packByte, BitVec.getLsbD_ofNat, decide_eq_true hwidth, Bool.true_and]
  exact testBit_sum_eight (lane_eq n on k) hp

theorem State.exec_produce_of_enabled {s : State} (h : s.produceEnabled = true) :
    exec .produce s = .next s.offerNext :=
  congrArg Host.Outcome.next (if_pos h)

/-- Settles O37: by the invariants PRODUCE is enabled and the source is not empty, so every pixel resamples to the one
colour (law 2 of R143). -/
theorem uniformSourcePacksUniformly : Obligations.UniformSourcePacksUniformly := by
  intro s c hinv hphase hpkv huniform
  have henabled : s.produceEnabled = true := s.produceEnabled_iff.mpr ⟨hphase, hpkv, hinv.packing hphase⟩
  obtain ⟨-, -, -, hw, hh⟩ := hinv.sourceHeld (s.busy_iff.mpr (.inl hphase))
  refine ⟨s.offerNext, State.exec_produce_of_enabled henabled, rfl, fun p hp => ?_⟩
  rw [State.offerNext_pkd, packedByte, packByte_getLsbD _ _ _ hp, onBit, blockKernel,
    resample_of_uniform _ hw hh huniform, pixelCount]

end Sys2Proof.Machine

namespace Sys2Proof.Machine

/-! ## The streams of a conversion (`42_packer.md` R168, `43_prepender.md` R185) -/

theorem packedStream_length (K : Kernel) (l : Latched) (img : Image) :
    (packedStream K l img).length = packedLength l.lw l.lh := by
  simp [packedStream]

/-- One byte more of the packed stream is the next packed byte, with PK_LAST if it is the last. -/
theorem packedStream_take_succ (K : Kernel) (l : Latched) (img : Image) {k : Nat} (hk : k < packedLength l.lw l.lh) :
    (packedStream K l img).take (k + 1) =
      (packedStream K l img).take k ++ [(packedByte K l img k, decide (k + 1 = packedLength l.lw l.lh))] := by
  rw [List.take_succ_eq_append_getElem (by rwa [packedStream_length])]
  simp [packedStream]

section StreamInvariantPerOperation

variable {s : State}

theorem State.StreamInv.beginStep (h : s.StreamInv) (rest : List Turn) : (s.beginStep rest).StreamInv := { h with }

theorem State.StreamInv.respond (h : s.StreamInv) (v : HData) : (s.respond v).StreamInv := { h with }

/-- The streams do not depend on the host-visible registers or on DROPPED. -/
theorem State.StreamInv.setHostRegisters (h : s.StreamInv) (tw th : BitVec 16) (thr : Byte) (inv dropped : Bool) :
    ({ s with targetW := tw, targetH := th, thresh := thr, invert := inv, dropped := dropped } : State).StreamInv :=
  { h with }

/-- Without a running conversion nothing is on offer, so no packed byte depends on the source. -/
theorem State.StreamInv.setSource (h : s.StreamInv) (hinv : s.Inv) (hb : s.busy = false) (src : Source) :
    ({ s with source := src } : State).StreamInv :=
  { h with
    taken := fun hb' => absurd (hb.symm.trans hb') (by decide)
    offered := fun hpkv => absurd (hinv.offerInPack hpkv) (s.not_busy_iff.mp hb).1 }

/-- A failed conversion has no stream to speak of. -/
theorem State.StreamInv.fail (s : State) (code : ErrCode) : (s.fail code).StreamInv := by
  constructor <;> simp [State.busy]

/-- A conversion begins with empty streams (R101). -/
theorem State.StreamInv.beginConversion (s : State) : s.beginConversion.StreamInv := by
  constructor <;> simp

theorem State.StreamInv.offerNext (h : s.StreamInv) : s.offerNext.StreamInv := { h with offered := fun _ => rfl }

/-- The byte on offer is the next of the packed stream, so a delivery makes what was taken one byte longer. -/
theorem State.StreamInv.deliver_taken (h : s.StreamInv) (hinv : s.Inv) (hpkv : s.pkv = true) :
    s.deliver.streams.taken = (packedStream blockKernel s.latched s.source.image).take s.deliver.kb.toNat := by
  have hphase := hinv.offerInPack hpkv
  obtain ⟨-, -, hplen, -⟩ := hinv.running (.inl hphase)
  have hkb : s.kb.toNat < packedLength s.latched.lw s.latched.lh := hplen ▸ hinv.packing hphase
  rw [hinv.deliver_kb_toNat, packedStream_take_succ _ _ _ hkb, ← h.taken (s.busy_iff.mpr (.inl hphase)),
    ← h.offered hpkv, ← hplen, ← hinv.offerLast hpkv, State.deliver_streams]

/-- A byte that is not the last. -/
theorem State.StreamInv.deliver_notLast (h : s.StreamInv) (hinv : s.Inv) (hpkv : s.pkv = true) :
    s.deliver.endOffer.StreamInv :=
  { h with
    taken := fun _ => h.deliver_taken hinv hpkv
    offered := by simp }

/-- The last byte: DRAIN keeps what PACK took and stored. -/
theorem State.StreamInv.deliver_last (h : s.StreamInv) (hinv : s.Inv) (hpkv : s.pkv = true) :
    s.deliver.endOffer.enterDrain.StreamInv where
  taken := fun _ => h.deliver_taken hinv hpkv
  offered := by simp
  sentLength := fun _ => h.sentLength (.inl (hinv.offerInPack hpkv))
  sentStored := fun _ => h.sentStored (.inl (hinv.offerInPack hpkv))

/-- A stored byte is the next of the CZ stream and the next of ART (R182). -/
theorem State.StreamInv.storeCz (h : s.StreamInv) (hinv : s.Inv) (d : Byte) (hczn : s.czn.toNat < Config.czMax) :
    (s.storeCz d).StreamInv := by
  have hn := State.storeCz_czn_toNat d hczn
  have hindex : s.czIndex = 2 + s.czn.toNat := rfl
  refine { h with sentLength := fun hp => ?_, sentStored := fun hp j hj => ?_ }
  · rw [hn, State.storeCz_streams, List.length_append, h.sentLength hp, List.length_singleton]
  · have hlength : s.streams.sent.length = s.czn.toNat := h.sentLength hp
    rw [hn] at hj
    rw [s.storeCz_read d _ hinv.artWf, State.storeCz_streams]
    rcases Nat.lt_succ_iff_lt_or_eq.mp hj with hlt | rfl
    · rw [if_neg (by omega), List.getElem?_append_left (by omega)]
      exact h.sentStored hp j hlt
    · rw [if_pos hindex.symm, ← hlength, List.getElem?_concat_length]

theorem State.StreamInv.commit (h : s.StreamInv) (hphase : s.phase = .drain) : s.commit.StreamInv :=
  { h with
    taken := by simp [State.busy]
    sentLength := fun _ => h.sentLength (.inr (.inl hphase))
    sentStored := fun _ => h.sentStored (.inr (.inl hphase)) }

end StreamInvariantPerOperation

/-- Every way an instruction ends keeps the streams right. -/
theorem Effect.keeps_streamInv {i : Instr} {s t : State} (he : Effect s i t) (hinv : s.Inv) (h : s.StreamInv) :
    t.StreamInv := by
  cases he with
  | read v => exact h.respond _
  | pass => exact h
  | targetW | targetH | config | startDropped => exact h.setHostRegisters ..
  | startBadSize | startBadSource | overflow | storeEarlyLast | czFail => exact State.StreamInv.fail ..
  | startBegins => exact State.StreamInv.beginConversion _
  | offer => exact h.offerNext
  | take hpkv => exact h.deliver_notLast hinv hpkv
  | takeLast hpkv => exact h.deliver_last hinv hpkv
  | store d hb hczn => exact h.storeCz hinv d hczn
  | storeLast d hphase hczn => exact (h.storeCz hinv d hczn).commit hphase
  | reset => exact streamInv_of_idle rfl rfl

/-- Settles O55: a step is an instruction, a turn that changes nothing, or an idle block's new source. -/
theorem everyStepKeepsTheStreams : Obligations.EveryStepKeepsTheStreams := by
  intro s t hinv h hstep
  rcases step_cases hstep with
    ⟨-, hexec⟩ | ⟨u, rest, i, -, -, hexec⟩ | ⟨u, rest, -, rfl⟩ | ⟨src, rest, -, hb, rfl⟩
  · exact (effect_of_exec hexec).keeps_streamInv (hinv.beginStep []) (h.beginStep [])
  · exact (effect_of_exec hexec).keeps_streamInv (hinv.beginStep rest) (h.beginStep rest)
  · exact h.beginStep rest
  · exact (h.beginStep rest).setSource (hinv.beginStep rest) hb src

end Sys2Proof.Machine

namespace Sys2Proof.Machine

/-! ## The packed bitmap (`42_packer.md` R160-R162) -/

/-- Settles O33, by the lemmas on the packed length. -/
theorem packedLengthIsTheRoundedUpEighth : Obligations.PackedLengthIsTheRoundedUpEighth := by
  intro lw lh hw hh
  obtain ⟨hupper, hlower⟩ := packedLength_bounds lw lh
  exact ⟨hupper, hlower, packedLength_pos hw hh, packedLength_le_plenMax lw lh⟩

theorem packedByte_getLsbD (K : Kernel) (l : Latched) (img : Image) (k : Nat) {p : Nat} (hp : p < 8) :
    (packedByte K l img k).getLsbD (7 - p) =
      (decide (8 * k + p < l.lw.toNat * l.lh.toNat) && onBit K l img (8 * k + p)) :=
  packByte_getLsbD _ _ k hp

/-- The classified image read at any index, 0 past its end (R151). -/
theorem classifiedBits_getD (K : Kernel) (l : Latched) (img : Image) (i : Nat) :
    (classifiedBits K l img)[i]?.getD false = (decide (i < l.lw.toNat * l.lh.toNat) && onBit K l img i) := by
  by_cases hi : i < l.lw.toNat * l.lh.toNat <;> simp [classifiedBits, pixelCount, hi]

/-- Settles O34: the bit and the entry of the list are the same expression. -/
theorem packedByteIsMostSignificantFirst : Obligations.PackedByteIsMostSignificantFirst := fun K l img k _ hp =>
  ⟨packedByte_getLsbD K l img k hp,
    (packedByte_getLsbD K l img k hp).trans (classifiedBits_getD K l img _).symm⟩

/-- Settles O35: the last byte begins at pixel `8 * (PLEN - 1)`, the `r` pixels from there on are the rest of the image,
and bit `j` with `j < 8 - r` belongs to the pixel `7 - j ≥ r` places on, which does not exist. -/
theorem lastByteIsPaddedInTheLowBits : Obligations.LastByteIsPaddedInTheLowBits := by
  intro K l img hw hh
  obtain ⟨hupper, hlower⟩ := packedLength_bounds l.lw l.lh
  have hpos := packedLength_pos hw hh
  refine ⟨l.lw.toNat * l.lh.toNat - 8 * (packedLength l.lw l.lh - 1), by omega, by omega, by omega, fun j hj => ?_⟩
  have hplace : 7 - (7 - j) = j := by omega
  have hpast : ¬ 8 * (packedLength l.lw l.lh - 1) + (7 - j) < l.lw.toNat * l.lh.toNat := by omega
  rw [← hplace, packedByte_getLsbD K l img _ (by omega), decide_eq_false hpast, Bool.false_and]

/-! ## PRODUCE and PK_XFER (`42_packer.md` R165-R167) -/

/-- Settles O36: the enabled PRODUCE is `offerNext`, whose byte is read bit by bit. -/
theorem produceOffersTheNextPackedByte : Obligations.ProduceOffersTheNextPackedByte := by
  intro s hphase hpkv hkb
  have hlast : (s.kb.toNat + 1 = s.plen.toNat) = (s.kb.toNat = s.plen.toNat - 1) := propext (by omega)
  refine ⟨packedByte blockKernel s.latched s.source.image s.kb.toNat, ?_, fun p hp => packedByte_getLsbD _ _ _ _ hp⟩
  rw [State.exec_produce_of_enabled (s.produceEnabled_iff.mpr ⟨hphase, hpkv, hkb⟩)]
  simp only [State.offerNext, hlast]

theorem State.exec_pkXfer_of_offer {s : State} (h : s.pkv = true) : exec .pkXfer s = .next s.takeOffer :=
  congrArg Host.Outcome.next (if_pos h)

/-- PK_XFER as one update: whether the byte is the last matters to the phase only (R166). -/
theorem State.takeOffer_eq (s : State) : s.takeOffer = { s with
    streams := { s.streams with taken := s.streams.taken ++ [(s.pkd, s.pkl)] }
    pkv := false, pkd := Config.freePkData s.freeCount, pkl := Config.freePkLast s.freeCount
    freeCount := s.freeCount + 1, kb := s.kb + 1, phase := if s.pkl then .drain else s.phase } := by
  rcases s.takeOffer_cases with ⟨hpkl, e⟩ | ⟨hpkl, e⟩
  · rw [e, if_neg (by simp [hpkl])]
    rfl
  · rw [e, if_pos hpkl]
    rfl

/-- Settles O38: PK_READY with a byte on offer is `takeOffer`. -/
theorem transferTakesTheOffer : Obligations.TransferTakesTheOffer := fun s hpkv =>
  ⟨_, _, _, (State.exec_pkXfer_of_offer hpkv).trans (congrArg Host.Outcome.next s.takeOffer_eq)⟩

/-- Settles O40: both guards fail. -/
theorem disabledTurnsPass : Obligations.DisabledTurnsPass := fun s =>
  ⟨fun hdisabled => congrArg Host.Outcome.next (if_neg (mt s.produceEnabled_iff.mp hdisabled)),
    fun hpkv => congrArg Host.Outcome.next (if_neg (by simp [hpkv]))⟩

/-- What becomes of an offer: PK_XFER, a reset or a failure ends it, and everything else leaves it standing. -/
theorem Effect.offer_ends_or_stands {i : Instr} {s t : State} (he : Effect s i t) (hinv : s.Inv) (hpkv : s.pkv = true) :
    (t.pkv = false ∧ (i = .pkXfer ∨ i = .reset ∨ t.phase = .failed)) ∨
    (t.phase ≠ .failed ∧ t.pkv = true ∧ t.pkd = s.pkd ∧ t.pkl = s.pkl) := by
  have hphase : s.phase = .pack := hinv.offerInPack hpkv
  have hbusy : s.busy = true := s.busy_iff.mpr (.inl hphase)
  cases he with
  | read | pass | targetW | targetH | config | startDropped | store =>
    exact .inr ⟨by simp [hphase], hpkv, rfl, rfl⟩
  | startBadSize _ _ hidle | startBadSource _ _ hidle | startBegins _ _ hidle =>
    exact absurd (hidle.symm.trans hbusy) (by decide)
  | offer _ hnone => exact absurd (hnone.symm.trans hpkv) (by decide)
  | take | takeLast => exact .inl ⟨rfl, .inl rfl⟩
  | overflow | storeEarlyLast | czFail => exact .inl ⟨rfl, .inr (.inr rfl)⟩
  | storeLast _ hdrain => exact absurd (hphase.symm.trans hdrain) (by decide)
  | reset => exact .inl ⟨rfl, .inr (.inl rfl)⟩

/-- Only PK_XFER counts KB: everything else keeps it or clears it (R42). -/
theorem Effect.kb_of_ne_pkXfer {i : Instr} {s t : State} (he : Effect s i t) (hne : i ≠ .pkXfer) :
    t.kb = s.kb ∨ t.kb = 0 := by
  cases he with
  | take | takeLast => exact absurd rfl hne
  | startBegins | reset => exact .inr rfl
  | read | pass | targetW | targetH | config | startDropped | startBadSize | startBadSource | offer | overflow | store
    | storeEarlyLast | storeLast | czFail => exact .inl rfl

/-- Settles O39, from what becomes of the offer and of KB. -/
theorem offerStandsUntilTakenOrWithdrawn : Obligations.OfferStandsUntilTakenOrWithdrawn := by
  intro i s t hinv h
  have he := effect_of_exec h
  refine ⟨fun hpkv hxfer hreset hrunning => ?_, fun hpkv hfailed => ?_, fun hcount => ?_, he.kb_of_ne_pkXfer⟩
  · rcases he.offer_ends_or_stands hinv hpkv with ⟨-, hends⟩ | ⟨-, hstands⟩
    · rcases hends with hi | hi | hfailed
      · exact absurd hi hxfer
      · exact absurd hi hreset
      · exact absurd hfailed hrunning
    · exact hstands
  · rcases he.offer_ends_or_stands hinv hpkv with ⟨hended, -⟩ | ⟨hrunning, -⟩
    · exact hended
    · exact absurd hfailed hrunning
  · by_contra hne
    rcases he.kb_of_ne_pkXfer hne with hkb | hkb <;> rw [hkb] at hcount
    · omega
    · simp at hcount

/-! ## A live compressor (`70_reset_and_hazards.md` R247) -/

/-- A running conversion between two offers, with `n` bytes still to take. -/
structure State.Awaits (n : Nat) (s : State) : Prop where
  inv : s.Inv
  streams : s.StreamInv
  noOffer : s.pkv = false
  left : s.kb.toNat + n = s.plen.toNat
  phase : s.phase = if n = 0 then .drain else .pack

/-- What the packer leaves alone from START to DRAIN. -/
structure State.SameConversion (s t : State) : Prop where
  latched : t.latched = s.latched
  source : t.source = s.source
  plen : t.plen = s.plen
  czn : t.czn = s.czn
  art : t.art = s.art
  errcode : t.errcode = s.errcode

theorem State.SameConversion.trans {s t u : State} (h : s.SameConversion t) (h' : t.SameConversion u) :
    s.SameConversion u where
  latched := h'.latched.trans h.latched
  source := h'.source.trans h.source
  plen := h'.plen.trans h.plen
  czn := h'.czn.trans h.czn
  art := h'.art.trans h.art
  errcode := h'.errcode.trans h.errcode

theorem State.takeOffer_sameConversion (s : State) : s.SameConversion s.takeOffer := by
  rw [s.takeOffer_eq]
  exact ⟨rfl, rfl, rfl, rfl, rfl, rfl⟩

/-- The sequencer offers the next byte. -/
theorem State.Awaits.step_offer {s : State} {n : Nat} (h : s.Awaits (n + 1)) {rest : List Turn}
    (hp : s.pending = .sequencer :: rest) : step s = .next (s.beginStep rest).offerNext := by
  have henabled : (s.beginStep rest).produceEnabled = true :=
    (s.beginStep rest).produceEnabled_iff.mpr ⟨h.phase, h.noOffer, h.inv.packing h.phase⟩
  rw [step_of_waiting_instr hp rfl, State.exec_produce_of_enabled henabled]

/-- The compressor takes the byte on offer. -/
theorem step_take {s : State} (hpkv : s.pkv = true) {rest : List Turn} (hp : s.pending = .pkReady :: rest) :
    step s = .next (s.beginStep rest).takeOffer := by
  rw [step_of_waiting_instr hp rfl, State.exec_pkXfer_of_offer (s := s.beginStep rest) hpkv]

/-- One round of the schedule, an offer and a take, leaves one byte less to take. -/
theorem State.Awaits.round {s : State} {n : Nat} (h : s.Awaits (n + 1)) {rest : List Turn}
    (hp : s.pending = .sequencer :: .pkReady :: rest) :
    ∃ u t, step s = .next u ∧ step u = .next t ∧ t.Awaits n ∧ s.SameConversion t ∧ t.pending = rest := by
  have hoffer := h.step_offer hp
  set u := (s.beginStep (.pkReady :: rest)).offerNext
  have htake : step u = .next (u.beginStep rest).takeOffer := step_take rfl rfl
  have hinv : u.Inv := everyStepKeepsTheInvariants s u h.inv hoffer
  have hstreams : u.StreamInv := everyStepKeepsTheStreams s u h.inv h.streams hoffer
  have hkb : u.deliver.kb.toNat = s.kb.toNat + 1 := hinv.deliver_kb_toNat
  have hleft := h.left
  have hlast : u.pkl = decide (n = 0) := decide_eq_decide.mpr (by simp; omega)
  have hsame : s.SameConversion (u.beginStep rest) := ⟨rfl, rfl, rfl, rfl, rfl, rfl⟩
  refine ⟨u, (u.beginStep rest).takeOffer, hoffer, htake, ?_, hsame.trans (State.takeOffer_sameConversion _), ?_⟩
  · refine ⟨everyStepKeepsTheInvariants u _ hinv htake, everyStepKeepsTheStreams u _ hinv hstreams htake,
      ?_, ?_, ?_⟩ <;> rw [State.takeOffer_eq]
    · show u.deliver.kb.toNat + n = s.plen.toNat
      omega
    · show (if u.pkl then Phase.drain else s.phase) = _
      simp [hlast, h.phase]
  · rw [State.takeOffer_eq]
    rfl

/-- `n` rounds take the `n` bytes that were left. -/
theorem State.Awaits.run_liveTurns {n : Nat} {s : State} (h : s.Awaits n) {rest : List Turn}
    (hp : s.pending = liveTurns n ++ rest) :
    ∃ t, Host.Core.run core (2 * n) s = .next t ∧ t.Awaits 0 ∧ s.SameConversion t ∧ t.pending = rest := by
  induction n generalizing s with
  | zero => exact ⟨s, rfl, h, ⟨rfl, rfl, rfl, rfl, rfl, rfl⟩, hp⟩
  | succ n ih =>
    obtain ⟨u, t, hoffer, htake, ht, hsame, hpt⟩ := h.round hp
    obtain ⟨v, hrun, hv, hsame', hpv⟩ := ih ht hpt
    exact ⟨v, ((run_succ _ _ _ hoffer).trans (run_succ _ _ _ htake)).trans hrun, hv, hsame.trans hsame', hpv⟩

/-- With every byte taken, what was taken is the whole packed stream (R168). -/
theorem State.Awaits.taken_of_zero {s : State} (h : s.Awaits 0) :
    s.kb = s.plen ∧ s.streams.taken = packedStream blockKernel s.latched s.source.image := by
  have hdrain : s.phase = .drain := h.phase
  have hkb : s.kb = s.plen := h.inv.drained (.inl hdrain)
  obtain ⟨-, -, hplen, -⟩ := h.inv.running (.inr (.inl hdrain))
  refine ⟨hkb, ?_⟩
  rw [h.streams.taken (s.busy_iff.mpr (.inr hdrain)), hkb, hplen, ← packedStream_length, List.take_length]

/-- Settles O56: a conversion just begun awaits PLEN bytes, and PLEN rounds take them. -/
theorem liveCompressorReceivesThePackedBitmap : Obligations.LiveCompressorReceivesThePackedBitmap := by
  intro s rest hinv hstreams hphase hkb hpkv hp
  have hpos : s.kb.toNat < s.plen.toNat := hinv.packing hphase
  have hstart : s.Awaits s.plen.toNat :=
    ⟨hinv, hstreams, hpkv, by simp [hkb], by rw [if_neg (by omega), hphase]⟩
  obtain ⟨t, hrun, ht, hsame, hpt⟩ := hstart.run_liveTurns hp
  obtain ⟨hall, htaken⟩ := ht.taken_of_zero
  rw [hsame.latched, hsame.source] at htaken
  exact ⟨t, hrun, ht.phase, hall.trans hsame.plen, ht.noOffer, htaken, hsame.latched, hsame.plen, hsame.czn, hsame.art,
    hsame.errcode, hpt⟩

end Sys2Proof.Machine

namespace Sys2Proof.Machine

/-! ## The header (`43_prepender.md` R180) -/

/-- A conversion that begins writes the size it latches, and no byte after the header. -/
theorem State.beginConversion_header {s : State} (hwf : Memory.wf s.art) :
    Memory.read s.beginConversion.art 0 = s.latchedNow.lw ∧ Memory.read s.beginConversion.art 1 = s.latchedNow.lh ∧
    ∀ a, 2 ≤ a → Memory.read s.beginConversion.art a = Memory.read s.art a :=
  ⟨State.prependHeader_read_zero { s with latched := s.latchedNow } hwf,
    State.prependHeader_read_one { s with latched := s.latchedNow } hwf,
    State.prependHeader_read_other { s with latched := s.latchedNow }⟩

/-- Settles O24: the header holds the latched size, which for a good size is the target size, and a bad size fails
before any byte is written. -/
theorem headerIsTheTargetSize : Obligations.HeaderIsTheTargetSize := by
  intro s lo hi hb hwf
  refine ⟨fun hsize => ?bad, fun hsize hsource => ?good⟩
  case bad => exact ⟨_, congrArg Host.Outcome.next (State.start_of_badSize hb hsize), rfl, rfl, rfl⟩
  case good =>
    obtain ⟨h0, h1, hother⟩ := State.beginConversion_header (s := s.acceptStart) hwf
    obtain ⟨hlw, hlh⟩ := s.acceptStart.latchedNow_toNat_of_good hsize
    rw [State.acceptStart_targetW] at hlw
    rw [State.acceptStart_targetH] at hlh
    refine ⟨_, congrArg Host.Outcome.next (State.start_of_good hb hsize hsource), h0, h1, ?_, ?_, ?_, ?_,
      fun a ha0 ha1 => hother a (by omega)⟩
    · rw [h0, ← hlw, Nat.mod_eq_of_lt (BitVec.isLt _)]
    · rw [h1, ← hlh, Nat.mod_eq_of_lt (BitVec.isLt _)]
    · rw [h0, hlw]
    · rw [h1, hlh]

/-! ## CZ_BYTE and CZ_FAIL (`43_prepender.md` R182, R184) -/

section CompressorPort

variable {s : State}

theorem State.czByte_of_idle (hb : s.busy = false) (d : Byte) (last : Bool) : s.czByte d last = s := by
  simp [State.czByte, hb]

theorem State.czByte_of_full (hb : s.busy = true) (hczn : Config.czMax ≤ s.czn.toNat) (d : Byte) (last : Bool) :
    s.czByte d last = s.fail .compressionError := by
  simp only [State.czByte, hb, hczn, Bool.not_true, Bool.false_eq_true, ↓reduceIte]

theorem State.czByte_notLast (hb : s.busy = true) (hczn : s.czn.toNat < Config.czMax) (d : Byte) :
    s.czByte d false = s.storeCz d := by
  simp [State.czByte, hb, Nat.not_le.mpr hczn]

theorem State.czByte_last_of_pack (hphase : s.phase = .pack) (hczn : s.czn.toNat < Config.czMax) (d : Byte) :
    s.czByte d true = (s.storeCz d).fail .compressionError := by
  simp [State.czByte, s.busy_iff.mpr (.inl hphase), Nat.not_le.mpr hczn, hphase]

theorem State.czByte_last_of_drain (hphase : s.phase = .drain) (hczn : s.czn.toNat < Config.czMax) (d : Byte) :
    s.czByte d true = (s.storeCz d).commit := by
  simp [State.czByte, s.busy_iff.mpr (.inr hphase), Nat.not_le.mpr hczn, hphase]

end CompressorPort

/-- Settles O42: each case is one equation of CZ_BYTE, and the stored byte reads back by the laws of the buffer. -/
theorem compressedByteIsStoredOrFails : Obligations.CompressedByteIsStoredOrFails := by
  intro s d last _ hwf
  refine ⟨fun hb => ?idle, fun hb hfull => ?full, fun hb hczn => ?room⟩
  case idle => exact congrArg Host.Outcome.next (State.czByte_of_idle hb d last)
  case full => exact ⟨_, _, _, congrArg Host.Outcome.next (State.czByte_of_full hb hfull.ge d last)⟩
  case room =>
    have hcount : BitVec.ofNat 14 (s.czn.toNat + 1) = s.czn + 1 := by simp [BitVec.ofNat_add]
    rw [hcount]
    refine ⟨_, rfl, Memory.read_write_same _ _ _ hwf.1, fun a ha => Memory.read_write_other _ _ _ _ ha, ?_, ?_, ?_⟩
    · rintro rfl
      exact congrArg Host.Outcome.next (State.czByte_notLast hb hczn d)
    · rintro rfl hphase
      exact ⟨_, _, _, congrArg Host.Outcome.next (State.czByte_last_of_pack hphase hczn d)⟩
    · rintro rfl hphase
      exact congrArg Host.Outcome.next (State.czByte_last_of_drain hphase hczn d)

/-- STATUS[10:0] of a conversion the compressor failed: 0x434, and DROPPED in bit 3 (R88). -/
theorem State.fail_statusLow (s : State) :
    ((s.fail .compressionError).statusWord.extractLsb' 0 11).toNat = 0x434 + 8 * s.dropped.toNat := by
  have hdropped := s.dropped.toNat_le
  have hnumber : statusNumber (s.fail .compressionError) =
      65536 * s.source.ready.toNat + 0x400 + 0x30 + 8 * s.dropped.toNat + 4 := rfl
  rw [BitVec.extractLsb'_toNat, Nat.shiftRight_zero, State.statusWord_toNat, hnumber]
  omega

/-- Settles O43: CZ_FAIL is `Fail` while a conversion runs, and passes otherwise. -/
theorem compressorFailureEndsTheConversion : Obligations.CompressorFailureEndsTheConversion := by
  intro s lo wd
  refine ⟨fun hb => ?_, fun hb => congrArg Host.Outcome.next (if_neg (by simp [hb]))⟩
  exact ⟨_, _, _, _, congrArg Host.Outcome.next (if_pos hb), rfl, _, rfl, s.fail_statusLow⟩

/-! ## The commit (`43_prepender.md` R183) -/

/-- Only a last byte stored in DRAIN enters DONE. -/
theorem Effect.commits {i : Instr} {s t : State} (he : Effect s i t) (hs : s.phase ≠ .done) (ht : t.phase = .done) :
    s.phase = .drain ∧ s.czn.toNat < Config.czMax ∧ ∃ d, i = .czByte d true ∧ t = (s.storeCz d).commit := by
  cases he with
  | storeLast d hphase hczn => exact ⟨hphase, hczn, d, rfl, rfl⟩
  | read | pass | targetW | targetH | config | startDropped | offer | take | store => exact absurd ht hs
  | startBadSize | startBadSource | startBegins | takeLast | overflow | storeEarlyLast | czFail | reset => cases ht

/-- In DONE every byte below ART_LEN is visible (R63). -/
theorem State.visibleByte_of_done {s : State} (hdone : s.phase = .done) {j : Nat} (hj : j < 2 + s.czn.toNat) :
    s.visibleByte j = Memory.read s.art j := if_pos ⟨hdone, hj⟩

/-- Settles O44: the commit follows a store, which counts CZN and puts the byte at the new end of the artifact. -/
theorem commitHappensInDrainAfterAByte : Obligations.CommitHappensInDrainAfterAByte := by
  intro i s t hinv h hs ht
  obtain ⟨hphase, hczn, d, rfl, rfl⟩ := (effect_of_exec h).commits hs ht
  have hcount : (s.storeCz d).commit.czn.toNat = s.czn.toNat + 1 := State.storeCz_czn_toNat d hczn
  have hlen : (s.storeCz d).commit.artLen.toNat = 2 + (s.storeCz d).commit.czn.toNat := by
    rw [State.artLen_toNat, if_pos ht]
  have hindex : 1 + (s.storeCz d).commit.czn.toNat = s.czIndex := by
    rw [hcount, State.czIndex]
    omega
  refine ⟨hphase, ⟨d, rfl, ?_⟩, hcount, hlen, by omega, fun j hj => State.visibleByte_of_done ht (by omega)⟩
  rw [hindex, State.commit_art, s.storeCz_read d _ hinv.artWf, if_pos rfl]

/-! ## The payload of the artifact (`43_prepender.md` R185, R187) -/

theorem State.payload_length (s : State) : s.payload.length = s.czn.toNat := by
  simp [State.payload]

theorem State.payload_getElem? (s : State) {j : Nat} (hj : j < s.czn.toNat) :
    s.payload[j]? = some (Memory.read s.art (2 + j)) := by
  simp [State.payload, hj]

/-- Storing a byte appends it to the payload (R182). -/
theorem State.storeCz_payload {s : State} (hwf : Memory.wf s.art) (d : Byte) (hczn : s.czn.toNat < Config.czMax) :
    (s.storeCz d).payload = s.payload ++ [d] := by
  have hold : ∀ j ∈ List.range s.czn.toNat, Memory.read (s.storeCz d).art (2 + j) = Memory.read s.art (2 + j) := by
    intro j hj
    have hlt := List.mem_range.mp hj
    rw [s.storeCz_read d _ hwf, if_neg (by rw [State.czIndex]; omega)]
  have hnew : Memory.read (s.storeCz d).art (2 + s.czn.toNat) = d := by
    rw [s.storeCz_read d _ hwf, State.czIndex, if_pos rfl]
  rw [State.payload, State.storeCz_czn_toNat d hczn, List.range_succ, List.map_append, List.map_congr_left hold,
    List.map_singleton, hnew, State.payload]

/-- The payload is what the compressor sent (R185). -/
theorem State.StreamInv.payload_eq_sent {s : State} (h : s.StreamInv)
    (hphase : s.phase = .pack ∨ s.phase = .drain ∨ s.phase = .done) : s.payload = s.streams.sent := by
  have hlength := s.payload_length.trans (h.sentLength hphase).symm
  refine List.ext_getElem? fun j => ?_
  rcases Nat.lt_or_ge j s.czn.toNat with hj | hj
  · rw [s.payload_getElem? hj, h.sentStored hphase j hj]
  · rw [List.getElem?_eq_none (by rwa [s.payload_length]),
      List.getElem?_eq_none (by rwa [h.sentLength hphase])]

theorem packedBitmap_length (K : Kernel) (l : Latched) (img : Image) :
    (packedBitmap K l img).length = packedLength l.lw l.lh := by
  simp [packedBitmap]

/-- The bytes of the packed stream are the packed bitmap (R168). -/
theorem packedStream_map_fst (K : Kernel) (l : Latched) (img : Image) :
    (packedStream K l img).map Prod.fst = packedBitmap K l img := by
  simp [packedStream, packedBitmap]

/-- In DRAIN no byte is left to take (R50 clause 4). -/
theorem State.awaits_zero_of_drain {s : State} (hinv : s.Inv) (hstreams : s.StreamInv) (hphase : s.phase = .drain) :
    s.Awaits 0 where
  inv := hinv
  streams := hstreams
  noOffer := Bool.eq_false_iff.mpr fun hpkv => by simpa [hphase] using hinv.offerInPack hpkv
  left := congrArg BitVec.toNat (hinv.drained (.inl hphase))
  phase := hphase

/-- Settles O45: the payload is the stream sent, and in DRAIN the stream taken is the whole packed stream. -/
theorem committedArtifactDecompressesToTheBitmap : Obligations.CommittedArtifactDecompressesToTheBitmap := by
  intro s t d decompress hinv hstreams hdrain h ht hkept
  have he := effect_of_exec h
  obtain ⟨-, -, hart0, hart1⟩ := ((he.keeps_inv hinv).running (.inr (.inr ht))).2
  have hpayload := (he.keeps_streamInv hinv hstreams).payload_eq_sent (.inr (.inr ht))
  have htaken : t.streams.taken = packedStream blockKernel t.latched t.source.image := by
    obtain ⟨-, -, d', -, rfl⟩ := he.commits (by simp [hdrain]) ht
    exact (State.awaits_zero_of_drain hinv hstreams hdrain).taken_of_zero.2
  refine ⟨hpayload, hart0, hart1, ?_, packedBitmap_length ..⟩
  rw [hpayload, hkept.2, htaken, packedStream_map_fst]

/-- Settles O41: pixel `i` is bit `7 - i % 8` of packed byte `i / 8`, which exists because PLEN is rounded up. -/
theorem packedBitmapReadsBack : Obligations.PackedBitmapReadsBack := by
  intro s i hinv hphase hi
  obtain ⟨-, -, -, hart0, hart1⟩ := hinv.running hphase
  rw [hart0, hart1] at hi
  obtain ⟨-, hlower⟩ := packedLength_bounds s.latched.lw s.latched.lh
  have hbyte : i / 8 < packedLength s.latched.lw s.latched.lh := by omega
  refine ⟨packedByte blockKernel s.latched s.source.image (i / 8), by simp [packedBitmap, hbyte], ?_⟩
  rw [packedByte_getLsbD _ _ _ _ (Nat.mod_lt i (by decide)), Nat.div_add_mod, decide_eq_true hi, Bool.true_and]

/-! ## A delivered stream -/

/-- `t` is `s` committed after the bytes `cs` were stored. -/
structure State.Delivers (s : State) (cs : List Byte) (t : State) : Prop where
  inv : t.Inv
  phase : t.phase = .done
  latched : t.latched = s.latched
  payload : t.payload = s.payload ++ cs

/-- The last byte in DRAIN is stored and commits. -/
theorem step_czLast {s : State} {c : Byte} {rest : List Turn} (hphase : s.phase = .drain)
    (hczn : s.czn.toNat < Config.czMax) (hp : s.pending = .cz true c true false :: rest) :
    step s = .next ((s.beginStep rest).storeCz c).commit :=
  (step_of_waiting_instr hp rfl).trans
    (congrArg Host.Outcome.next (State.czByte_last_of_drain (s := s.beginStep rest) hphase hczn c))

theorem step_czNotLast {s : State} {c : Byte} {rest : List Turn} (hb : s.busy = true)
    (hczn : s.czn.toNat < Config.czMax) (hp : s.pending = .cz true c false false :: rest) :
    step s = .next ((s.beginStep rest).storeCz c) :=
  (step_of_waiting_instr hp rfl).trans
    (congrArg Host.Outcome.next (State.czByte_notLast (s := s.beginStep rest) hb hczn c))

/-- A run of the compressor's turns stores every byte and commits after the last. -/
theorem run_czTurns {cs : List Byte} {rest : List Turn} {s : State} (hinv : s.Inv) (hphase : s.phase = .drain)
    (hne : cs ≠ []) (hfit : s.czn.toNat + cs.length ≤ Config.czMax) (hp : s.pending = czTurns cs ++ rest) :
    ∃ t : State, Host.Core.run core cs.length s = .next t ∧ s.Delivers cs t ∧ t.pending = rest := by
  induction cs generalizing s with
  | nil => exact absurd rfl hne
  | cons c cs ih =>
    have hczn : s.czn.toNat < Config.czMax := by
      rw [List.length_cons] at hfit
      omega
    cases cs with
    | nil =>
      have hstep := step_czLast hphase hczn hp
      exact ⟨_, run_succ 0 _ _ hstep, ⟨everyStepKeepsTheInvariants _ _ hinv hstep, rfl, rfl,
        State.storeCz_payload (s := s.beginStep rest) hinv.artWf c hczn⟩, rfl⟩
    | cons c' cs =>
      have hstep := step_czNotLast (s.busy_iff.mpr (.inr hphase)) hczn hp
      set u := (s.beginStep (czTurns (c' :: cs) ++ rest)).storeCz c
      have hcount : u.czn.toNat = s.czn.toNat + 1 := State.storeCz_czn_toNat c hczn
      have hpayload : u.payload = s.payload ++ [c] := State.storeCz_payload (s := s.beginStep _) hinv.artWf c hczn
      obtain ⟨t, hrun, ht, hpt⟩ := ih (s := u) (everyStepKeepsTheInvariants _ _ hinv hstep) hphase
        (List.cons_ne_nil _ _) (by rw [hcount]; rw [List.length_cons] at hfit; omega) rfl
      refine ⟨t, (run_succ _ _ _ hstep).trans hrun, ⟨ht.inv, ht.phase, ht.latched, ?_⟩, hpt⟩
      rw [ht.payload, hpayload, List.append_assoc, List.singleton_append]

theorem State.Delivers.czn_toNat {s t : State} {cs : List Byte} (h : s.Delivers cs t) :
    t.czn.toNat = s.czn.toNat + cs.length := by
  rw [← t.payload_length, h.payload, List.length_append, s.payload_length]

/-- The window shows the payload after the header: the bytes stored before, then the new ones (R185). -/
theorem State.Delivers.visibleByte {s t : State} {cs : List Byte} (h : s.Delivers cs t) {j : Nat}
    (hj : j < s.czn.toNat + cs.length) :
    (s.payload ++ cs)[j]? = some (t.visibleByte (2 + j)) := by
  have hczn : j < t.czn.toNat := h.czn_toNat ▸ hj
  rw [← h.payload, t.payload_getElem? hczn, State.visibleByte_of_done h.phase (by omega)]

/-- Settles O57: the run delivers the bytes, and the committed window shows the header and then the payload. -/
theorem deliveredStreamCommitsTheArtifact : Obligations.DeliveredStreamCommitsTheArtifact := by
  intro s cs rest hinv hphase hne hfit hp
  obtain ⟨t, hrun, ht, hpt⟩ := run_czTurns hinv hphase hne hfit hp
  obtain ⟨-, -, -, hart0, hart1⟩ := ht.inv.running (.inr (.inr ht.phase))
  rw [ht.latched] at hart0 hart1
  refine ⟨t, hrun, ht.phase, ht.inv.errcode.mpr (by simp [ht.phase]), ?len, ?width, ?height, fun j hj => ?old,
    fun j hj => ?new, hpt⟩
  case len => rw [State.artLen_toNat, if_pos ht.phase, ht.czn_toNat, Nat.add_assoc]
  case width => rw [State.visibleByte_of_done ht.phase (by omega), hart0]
  case height => rw [State.visibleByte_of_done ht.phase (by omega), hart1]
  case old =>
    have hshown := ht.visibleByte (j := j) (by omega)
    rw [List.getElem?_append_left (by rwa [s.payload_length]), s.payload_getElem? hj] at hshown
    exact (Option.some.inj hshown).symm
  case new =>
    have hshown := ht.visibleByte (j := s.czn.toNat + j) (by omega)
    rwa [List.getElem?_append_right (by rw [s.payload_length]; omega), s.payload_length, Nat.add_sub_cancel_left,
      ← Nat.add_assoc] at hshown

end Sys2Proof.Machine

namespace Sys2Proof.Machine

/-! ## The sequencer's own move (`60_exceptions.md` R217, `70_reset_and_hazards.md` R247) -/

theorem step_of_pending_nil {s : State} (hp : s.pending = []) : step s = exec .produce { s with cmpStart := false } := by
  have hbegin : s.beginStep [] = { s with cmpStart := false } := by rw [State.beginStep, ← hp]
  simp only [step, hp, hbegin]

/-- Settles O7: the step is PRODUCE, which offers (O36) or passes (O40). -/
theorem sequencerMovesWhenNobodyElseDoes : Obligations.SequencerMovesWhenNobodyElseDoes := by
  intro s hp
  have hstep := step_of_pending_nil hp
  refine ⟨hstep, fun ⟨hphase, hpkv, hkb⟩ => ?enabled, fun hdisabled => ?quiescent⟩
  case enabled =>
    obtain ⟨d, hoffer, -⟩ := produceOffersTheNextPackedByte { s with cmpStart := false } hphase hpkv hkb
    exact ⟨d, hstep.trans hoffer⟩
  case quiescent => exact hstep.trans ((disabledTurnsPass { s with cmpStart := false }).1 hdisabled)

/-! ## Failing a conversion (`60_exceptions.md` R200-R207) -/

section Failing

variable {i : Instr} {s t : State}

theorem State.exec_czFail_of_busy (hb : s.busy = true) : exec .czFail s = .next (s.fail .compressionError) :=
  congrArg Host.Outcome.next (if_pos hb)

theorem State.exec_czFail_of_idle (hb : s.busy = false) : exec .czFail s = .next s :=
  congrArg Host.Outcome.next (if_neg (by simp [hb]))

theorem State.start_of_busy (hb : s.busy = true) : s.start = { s with dropped := true } := if_pos hb

/-- A failed block is not busy, so it takes a START and discards what the compressor sends. -/
theorem State.fail_busy (s : State) (code : ErrCode) : (s.fail code).busy = false := rfl

/-- A START that ends in PACK without BUSY before it has begun a conversion. -/
theorem State.start_cmpStart (hb : s.busy = false) (hpack : s.start.phase = .pack) : s.start.cmpStart = true := by
  rcases s.start_cases with ⟨hbusy, -⟩ | ⟨-, -, e⟩ | ⟨-, -, -, e⟩ | ⟨-, -, -, e⟩
  · exact absurd (hb.symm.trans hbusy) (by decide)
  · rw [e] at hpack; cases hpack
  · rw [e] at hpack; cases hpack
  · rw [e]; rfl

/-- An instruction that ends in FAILED kept a failure that stood, or applied `Fail` to the state before it, to what an
accepted START had cleared, or to the state with its byte stored. -/
theorem Effect.fails (he : Effect s i t) (ht : t.phase = .failed) :
    (s.phase = .failed ∧ t.errcode = s.errcode) ∨ ∃ (u : State) (code : ErrCode), code ≠ .none ∧ t = u.fail code ∧
      (u = s ∨ u = { s.acceptStart with plen := 0 } ∨ ∃ d, u = s.storeCz d) := by
  cases he with
  | read | pass | targetW | targetH | config | startDropped | offer | take | store => exact .inl ⟨ht, rfl⟩
  | startBadSize | startBadSource => exact .inr ⟨_, _, by decide, rfl, .inr (.inl rfl)⟩
  | overflow | czFail => exact .inr ⟨_, _, by decide, rfl, .inl rfl⟩
  | storeEarlyLast d => exact .inr ⟨_, _, by decide, rfl, .inr (.inr ⟨d, rfl⟩)⟩
  | startBegins | takeLast | storeLast | reset => cases ht

/-- START, the transfer, the CZ port and the reset are alone in moving the phase, the error code and DROPPED. -/
theorem Effect.keeps_status (he : Effect s i t) (hstart : ∀ lo hi, i ≠ .wrCmdStart lo hi) (hxfer : i ≠ .pkXfer)
    (hbyte : ∀ d last, i ≠ .czByte d last) (hfail : i ≠ .czFail) (hreset : i ≠ .reset) :
    t.phase = s.phase ∧ t.errcode = s.errcode ∧ t.dropped = s.dropped := by
  cases he with
  | read | pass | targetW | targetH | config | offer => exact ⟨rfl, rfl, rfl⟩
  | startDropped lo hi | startBadSize lo hi | startBadSource lo hi | startBegins lo hi => exact absurd rfl (hstart lo hi)
  | take | takeLast => exact absurd rfl hxfer
  | overflow | store | storeEarlyLast | storeLast => exact absurd rfl (hbyte _ _)
  | czFail => exact absurd rfl hfail
  | reset => exact absurd rfl hreset

/-- Under the invariants CZN is below its limit when it is not at it (R44). -/
theorem State.Inv.czn_lt_czMax (hinv : s.Inv) (hczn : s.czn.toNat ≠ 16382) : s.czn.toNat < Config.czMax :=
  hinv.cznBound.lt_of_ne hczn

/-- A START that is not dropped (R101): the one that clears an error code (R40). -/
def AcceptsStart (i : Instr) (s : State) : Prop := (∃ lo hi, i = .wrCmdStart lo hi) ∧ s.busy = false

/-- The causes of COMPRESSION_ERROR (R202). -/
def CompressorFails (i : Instr) (s : State) : Prop :=
  s.busy = true ∧ (i = .czFail ∨ ∃ d last, i = .czByte d last ∧
    (s.czn.toNat = 16382 ∨ last = true ∧ s.phase = .pack))

/-- The error code an accepted START leaves (R101, R205). -/
theorem AcceptsStart.errcode (hstart : AcceptsStart i s) (h : exec i s = .next t) :
    (badSize s ∧ t.errcode = .invalidParams) ∨ (¬ badSize s ∧ badSource s ∧ t.errcode = .sourceUnavailable) ∨
    (¬ badSize s ∧ ¬ badSource s ∧ t.errcode = .none) := by
  obtain ⟨⟨lo, hi, rfl⟩, hb⟩ := hstart
  obtain rfl : s.start = t := Host.Outcome.next.inj h
  by_cases hsize : badSize s
  · exact .inl ⟨hsize, by rw [State.start_of_badSize hb hsize, State.fail_errcode]⟩
  · by_cases hsource : badSource s
    · exact .inr (.inl ⟨hsize, hsource, by rw [State.start_of_badSource hb hsize hsource, State.fail_errcode]⟩)
    · exact .inr (.inr ⟨hsize, hsource, by rw [State.start_of_good hb hsize hsource]; rfl⟩)

theorem CompressorFails.errcode (hfails : CompressorFails i s) (h : exec i s = .next t) :
    t.errcode = .compressionError := by
  obtain ⟨hb, rfl | ⟨d, last, rfl, hcause⟩⟩ := hfails
  · rw [State.exec_czFail_of_busy hb] at h
    cases h
    rfl
  · obtain rfl : s.czByte d last = t := Host.Outcome.next.inj h
    by_cases hfull : Config.czMax ≤ s.czn.toNat
    · rw [State.czByte_of_full hb hfull, State.fail_errcode]
    · obtain ⟨rfl, hphase⟩ := hcause.resolve_left fun hczn => hfull hczn.ge
      rw [State.czByte_last_of_pack hphase (Nat.not_le.mp hfull), State.fail_errcode]

/-- Nothing else writes ERRCODE. -/
theorem Effect.keeps_errcode (he : Effect s i t) (hinv : s.Inv) (hstart : ¬ AcceptsStart i s) (hreset : i ≠ .reset)
    (hfails : ¬ CompressorFails i s) : t.errcode = s.errcode := by
  cases he with
  | read | pass | targetW | targetH | config | startDropped | offer | take | takeLast | store | storeLast => rfl
  | startBadSize lo hi hb | startBadSource lo hi hb | startBegins lo hi hb => exact absurd ⟨⟨lo, hi, rfl⟩, hb⟩ hstart
  | overflow d last hb hczn =>
    exact absurd ⟨hb, .inr ⟨d, last, rfl, .inl (hinv.cznBound.antisymm hczn)⟩⟩ hfails
  | storeEarlyLast d hphase =>
    exact absurd ⟨s.busy_iff.mpr (.inl hphase), .inr ⟨d, true, rfl, .inr ⟨rfl, hphase⟩⟩⟩ hfails
  | czFail hb => exact absurd ⟨hb, .inl rfl⟩ hfails
  | reset => exact absurd rfl hreset

end Failing

/-- Settles O9: either way the step is `Fail` from the state it began in. -/
theorem compressorErrorComesFirst : Obligations.CompressorErrorComesFirst := by
  intro s valid last error d rest hp hb hcause
  have hstep : step s = .next ((s.beginStep rest).fail .compressionError) := by
    cases error with
    | true => exact (step_of_waiting_instr hp rfl).trans (State.exec_czFail_of_busy hb)
    | false =>
      obtain ⟨rfl, hczn⟩ := hcause.resolve_left (by decide)
      exact (step_of_waiting_instr hp rfl).trans
        (congrArg Host.Outcome.next (State.czByte_of_full (s := s.beginStep rest) hb hczn.ge d last))
  exact ⟨_, hstep, rfl, rfl, rfl, rfl, rfl⟩

/-- Settles O25: a failed block is outside DONE and not busy, and `Effect.fails` lists the ways into FAILED. -/
theorem failIsTheOnlyWayToFail : Obligations.FailIsTheOnlyWayToFail := by
  refine ⟨fun s code => ⟨⟨_, _, _, rfl⟩, ?artLen, ?window, ?byte, ?error, ?restart⟩,
    fun i s t h => (effect_of_exec h).fails⟩
  case artLen => exact State.artLen_of_not_done (by simp)
  case window => exact State.visibleByte_of_not_done (by simp)
  case byte => exact fun d last => congrArg Host.Outcome.next (State.czByte_of_idle (s.fail_busy code) d last)
  case error => exact State.exec_czFail_of_idle (s.fail_busy code)
  case restart =>
    rintro lo hi _ ⟨⟩ hpack
    exact State.start_cmpStart (s.fail_busy code) hpack

/-- Settles O26: a step is an accepted START, a reset, a failure of the compressor, or it keeps ERRCODE. -/
theorem errorCausesAreComplete : Obligations.ErrorCausesAreComplete := by
  intro i s t hinv h
  change (t.errcode = .invalidParams ↔ (AcceptsStart i s ∧ badSize s) ∨
      (s.errcode = .invalidParams ∧ ¬ AcceptsStart i s ∧ i ≠ .reset)) ∧
    (t.errcode = .sourceUnavailable ↔ (AcceptsStart i s ∧ ¬ badSize s ∧ badSource s) ∨
      (s.errcode = .sourceUnavailable ∧ ¬ AcceptsStart i s ∧ i ≠ .reset)) ∧
    (t.errcode = .compressionError ↔ CompressorFails i s ∨
      (s.errcode = .compressionError ∧ ¬ AcceptsStart i s ∧ i ≠ .reset))
  by_cases hstart : AcceptsStart i s
  · have hfails : ¬ CompressorFails i s := fun hf => absurd (hstart.2.symm.trans hf.1) (by decide)
    rcases hstart.errcode h with ⟨hsize, e⟩ | ⟨hsize, hsource, e⟩ | ⟨hsize, hsource, e⟩ <;> rw [e]
    · simp [hstart, hfails, hsize]
    · simp [hstart, hfails, hsize, hsource]
    · simp [hstart, hfails, hsize, hsource]
  · by_cases hreset : i = .reset
    · subst hreset
      cases h
      simp [hstart, CompressorFails]
    · by_cases hfails : CompressorFails i s
      · rw [hfails.errcode h, hinv.busy_errcode hfails.1]
        simp [hstart, hfails]
      · rw [(effect_of_exec h).keeps_errcode hinv hstart hreset hfails]
        simp [hstart, hreset, hfails]

/-! ## The phase transition table (`60_exceptions.md` R207), one lemma for each of its instructions -/

section PhaseTable

variable {s : State}

/-- START, its conditions in the order of R205. -/
theorem movesTo_wrCmdStart (s : State) (lo : BitVec 2) (hi : BitVec 28) :
    (s.busy = true → movesTo (.wrCmdStart lo hi) s s.phase s.errcode true) ∧
    (s.busy = false → badSize s → movesTo (.wrCmdStart lo hi) s .failed .invalidParams false) ∧
    (s.busy = false → ¬ badSize s → badSource s → movesTo (.wrCmdStart lo hi) s .failed .sourceUnavailable false) ∧
    (s.busy = false → ¬ badSize s → ¬ badSource s → movesTo (.wrCmdStart lo hi) s .pack .none false) :=
  ⟨fun hb => ⟨_, congrArg Host.Outcome.next (State.start_of_busy hb), rfl, rfl, rfl⟩,
    fun hb hsize => ⟨_, congrArg Host.Outcome.next (State.start_of_badSize hb hsize), rfl, rfl, rfl⟩,
    fun hb hsize hsource => ⟨_, congrArg Host.Outcome.next (State.start_of_badSource hb hsize hsource), rfl, rfl, rfl⟩,
    fun hb hsize hsource => ⟨_, congrArg Host.Outcome.next (State.start_of_good hb hsize hsource), rfl, rfl, rfl⟩⟩

/-- PK_XFER: by the invariants a byte is on offer in PACK only. -/
theorem State.Inv.movesTo_pkXfer (hinv : s.Inv) :
    (s.phase = .pack → s.pkv = true → s.pkl = true → movesTo .pkXfer s .drain s.errcode s.dropped) ∧
    (¬ (s.phase = .pack ∧ s.pkv = true ∧ s.pkl = true) → movesTo .pkXfer s s.phase s.errcode s.dropped) := by
  refine ⟨fun _ hpkv hpkl => ?last, fun hnot => ?keeps⟩
  case last =>
    have hdrain : s.takeOffer = s.deliver.endOffer.enterDrain := if_pos hpkl
    exact ⟨_, (State.exec_pkXfer_of_offer hpkv).trans (congrArg Host.Outcome.next hdrain), rfl, rfl, rfl⟩
  case keeps =>
    cases hpkv : s.pkv with
    | false => exact ⟨s, (disabledTurnsPass s).2 hpkv, rfl, rfl, rfl⟩
    | true =>
      have hstays : s.takeOffer = s.deliver.endOffer := if_neg fun hpkl => hnot ⟨hinv.offerInPack hpkv, hpkv, hpkl⟩
      exact ⟨_, (State.exec_pkXfer_of_offer hpkv).trans (congrArg Host.Outcome.next hstays), rfl, rfl, rfl⟩

/-- CZ_BYTE, its conditions in the order of R206: by the invariants CZN below 16382 is CZN other than 16382. -/
theorem State.Inv.movesTo_czByte (hinv : s.Inv) (d : Byte) (last : Bool) :
    (s.busy = true → s.czn.toNat = 16382 → movesTo (.czByte d last) s .failed .compressionError s.dropped) ∧
    (s.czn.toNat ≠ 16382 → last = true →
      (s.phase = .pack → movesTo (.czByte d last) s .failed .compressionError s.dropped) ∧
      (s.phase = .drain → movesTo (.czByte d last) s .done s.errcode s.dropped)) ∧
    (s.busy = false ∨ (s.czn.toNat ≠ 16382 ∧ last = false) →
      movesTo (.czByte d last) s s.phase s.errcode s.dropped) := by
  refine ⟨fun hb hczn => ?full, ?last, ?keeps⟩
  case full => exact ⟨_, congrArg Host.Outcome.next (State.czByte_of_full hb hczn.ge d last), rfl, rfl, rfl⟩
  case last =>
    rintro hczn rfl
    have hroom := hinv.czn_lt_czMax hczn
    exact ⟨fun hp => ⟨_, congrArg Host.Outcome.next (State.czByte_last_of_pack hp hroom d), rfl, rfl, rfl⟩,
      fun hp => ⟨_, congrArg Host.Outcome.next (State.czByte_last_of_drain hp hroom d), rfl, rfl, rfl⟩⟩
  case keeps =>
    intro hkeeps
    cases hb : s.busy with
    | false => exact ⟨_, congrArg Host.Outcome.next (State.czByte_of_idle hb d last), rfl, rfl, rfl⟩
    | true =>
      obtain ⟨hczn, rfl⟩ := hkeeps.resolve_left (by simp [hb])
      exact ⟨_, congrArg Host.Outcome.next (State.czByte_notLast hb (hinv.czn_lt_czMax hczn) d), rfl, rfl, rfl⟩

theorem movesTo_czFail (s : State) :
    (s.busy = true → movesTo .czFail s .failed .compressionError s.dropped) ∧
    (s.busy = false → movesTo .czFail s s.phase s.errcode s.dropped) :=
  ⟨fun hb => ⟨_, State.exec_czFail_of_busy hb, rfl, rfl, rfl⟩,
    fun hb => ⟨_, State.exec_czFail_of_idle hb, rfl, rfl, rfl⟩⟩

/-- The source's turn leaves the block alone. -/
theorem present_keeps_status {t : State} {src : Source} (h : s.present src = .next t) :
    t.phase = s.phase ∧ t.errcode = s.errcode ∧ t.dropped = s.dropped := by
  rcases s.present_cases src with ⟨-, -, e⟩ | ⟨-, -, e⟩ | ⟨-, e⟩ <;> rw [e] at h <;> cases h <;> exact ⟨rfl, rfl, rfl⟩

end PhaseTable

/-- Settles O48: one lemma for each instruction of the table, and `Effect.keeps_status` for every other. -/
theorem phaseTransitionTableIsComplete : Obligations.PhaseTransitionTableIsComplete := by
  intro s hinv
  refine ⟨movesTo_wrCmdStart s, hinv.movesTo_pkXfer, hinv.movesTo_czByte, movesTo_czFail s, ⟨_, rfl, rfl, rfl, rfl⟩,
    fun i hstart hxfer hbyte hfail hreset => ?_, fun src t => present_keeps_status⟩
  obtain ⟨t, h⟩ := exec_total i s
  exact ⟨t, h, (effect_of_exec h).keeps_status hstart hxfer hbyte hfail hreset⟩

end Sys2Proof.Machine

namespace Sys2Proof.Machine

/-! ## Reset (`70_reset_and_hazards.md` R230-R232) -/

section AfterReset

variable {s t : State}

/-- What the reads find right after a reset, be it `State.reset` or the state a RESET step leads to. -/
theorem registers_after_reset (h : t = State.reset ∨ exec .reset s = .next t) :
    t.phase = .idle ∧ t.errcode = .none ∧ t.dropped = false ∧ t.plen = 0 := by
  rcases h with rfl | h
  · exact ⟨rfl, rfl, rfl, rfl⟩
  · obtain rfl : s.doReset = t := Host.Outcome.next.inj h
    exact ⟨s.doReset_phase, s.doReset_errcode, s.doReset_dropped, s.doReset_plen⟩

/-- In IDLE, with no error and no dropped START, STATUS shows SRC_READY alone (R88). -/
theorem State.statusWord_of_idle (hphase : s.phase = .idle) (herr : s.errcode = .none) (hdropped : s.dropped = false) :
    s.statusWord = if s.source.ready then 0x00010000 else 0 := by
  simp only [State.statusWord, State.isErr, State.isDone, State.busy, hphase, herr, hdropped]
  cases s.source.ready <;> rfl

/-- A read that answers the word `v`, known to be `w`. -/
theorem exec_read_of_eq {i : Instr} {v w : HData} (hexec : exec i s = .next (s.respond v)) (hv : v = w) :
    exec i s = .next { s with hrdata := w } := by
  subst hv
  exact hexec

end AfterReset

/-- Settles O46: RESET is `doReset`, whose ART is made of free cells, and whose offer has ended. -/
theorem resetGivesEveryRegisterItsValue : Obligations.ResetGivesEveryRegisterItsValue := by
  refine fun s => ⟨_, _, _, _, rfl, Memory.wf_ofCells (Config.freeArt s.freeCount), fun t h => ?ports⟩
  case ports =>
    obtain rfl : s.doReset = t := Host.Outcome.next.inj h
    have hoffer : ¬ s.doReset.pkv = true := by simp
    exact ⟨if_neg hoffer, rfl⟩

/-- Settles O47: the block is idle with PLEN 0, and outside DONE the length and the window read 0. -/
theorem readsAfterReset : Obligations.ReadsAfterReset := by
  intro s t lo wd h
  obtain ⟨hphase, herr, hdropped, hplen⟩ := registers_after_reset h
  have hidle : t.phase ≠ .done := by simp [hphase]
  refine ⟨?status, ?packedLen, ?artLen, fun idx => ?window⟩
  case status => exact exec_read_of_eq rfl (State.statusWord_of_idle hphase herr hdropped)
  case packedLen => exact exec_read_of_eq rfl (congrArg zext32 hplen)
  case artLen => exact exec_read_of_eq rfl (congrArg zext32 (State.artLen_of_not_done hidle))
  case window => exact exec_read_of_eq rfl (State.windowWord_of_not_done hidle idx)

end Sys2Proof.Machine
